-- ==== Sys2Proof/Word.lean ====
section
/-! DEFINITION. The machine's words: what the spec treats as bits (00_scope.md R6: `XLEN` 8, `PC_BITS` 16). -/

namespace Sys2Proof

/-- A register, a data byte, an instruction byte or a register-file address (00_scope.md R6: `XLEN`, `RF_ADDR_BITS`). -/
abbrev Byte := BitVec 8

/-- A program address or the contents of a register pair (00_scope.md R6: `PC_BITS`; 10_state.md R23). -/
abbrev Word := BitVec 16

/-- A working-register number, or half of a byte (00_scope.md R7, R11). -/
abbrev Nibble := BitVec 4

end Sys2Proof
end

