-- ==== Sys2Proof/Config.lean ====
section
/-! DEFINITION. What a device built on the core fixes (the parameters of 00_scope.md R6) and the free values.
A `Device` is plain data, held in State and never changed by a step, so that a theorem about every state is a theorem
about every device. Where a parameter of R6 is a function, the record names which function: the spec's default, or
an opaque constant of this file about which nothing can be proved. -/

namespace Sys2Proof

/-- A run of register-file addresses, both ends included. -/
structure RegRange where
  lo : Byte
  hi : Byte
deriving DecidableEq, Repr

/-- A run of program addresses, both ends included. -/
structure ProgRange where
  lo : Word
  hi : Word
deriving DecidableEq, Repr

/-- `PROG_WRITE` (20_memory.md R66): what a store to program memory does. -/
inductive ProgWrite where
  /-- the spec gives the store no meaning -/
  | refuse
  /-- the instruction completes, program memory is unchanged (a ROM device) -/
  | ignore
  /-- the byte is stored (a device with writable program memory) -/
  | perform
deriving DecidableEq, Repr

/-- `LDC_STORE_NIBBLES` (30_encoding.md R95): the order of the two numbers in the operand byte of D2H and D3H. -/
inductive NibbleOrder where
  /-- the destination pair in bits 7:4, the source register in bits 3:0 (the op code map's order) -/
  | dstSrc
  /-- the source register in bits 7:4, the destination pair in bits 3:0 -/
  | srcDst
deriving DecidableEq, Repr

/-- `RESERVED_LEN` (30_encoding.md R106): how many bytes a reserved op code consumes. -/
inductive ReservedLen where
  /-- one byte, "like NOP itself" -/
  | one
  /-- "as long as its column" (R92) -/
  | column
  /-- any function of the op code: the free value `Config.reservedLen` -/
  | free
  /-- a program that reaches one is refused -/
  | refuse
deriving DecidableEq, Repr

/-- `ROT_V` (46_rotate_shift.md R251): V after RL, RLC, RR, RRC. -/
inductive RotVRule where
  /-- V is 1 exactly when bit 7 of the operand changed (the spec's default) -/
  | signChanged
  /-- any function of the operation, the operand, the result and the old carry: the free value `Config.rotV` -/
  | free
deriving DecidableEq, Repr

/-- `DA_FN` (41_arithmetic.md R174): decimal adjust. -/
inductive DaRule where
  /-- the correction table of the family, extended by R174's algorithm (the spec's default) -/
  | family
  /-- any function of the byte, C, H and D: the free value `Config.daFn` -/
  | free
deriving DecidableEq, Repr

/-- The four rotates whose V flag `ROT_V` decides (R251). -/
inductive RotOp where
  | rl
  | rlc
  | rr
  | rrc
deriving DecidableEq, Repr

/-- `enabled_s(IMR)` of an interrupt source: a predicate over IMR bits 6:0 (60_exceptions.md R302). -/
inductive IrqEnable where
  /-- the default: always true -/
  | always
  /-- true when one bit of IMR, 0 to 6, is set -/
  | whenBit (n : Fin 7)
  /-- any predicate, given by the values of IMR(6:0) on which it is true -/
  | oneOf (values : List (BitVec 7))
deriving DecidableEq, Repr

/-- How the handler of a source is found (60_exceptions.md R309). -/
inductive IrqHandler where
  /-- a fixed 16-bit address -/
  | fixed (address : Word)
  /-- the 16-bit word at a vector location in program memory -/
  | vectored (location : Word)
deriving DecidableEq, Repr

/-- One interrupt source of the parameter `IRQ` (60_exceptions.md R302). -/
structure IrqSource where
  name : Nat
  enable : IrqEnable
  rank : Nat
  handler : IrqHandler
deriving DecidableEq, Repr

/-- The parameters of 00_scope.md R6, the harness's `END_PC` (70_reset_and_hazards.md R352), and the point R323 leaves
to the device; all fixed for a whole run. -/
structure Device where
  /-- `RF_PRESENT`: a register-file address is present when it lies in one of these runs -/
  rfPresent : List RegRange
  /-- `RF_DEVICE`: the present addresses that are peripheral registers -/
  rfDevice : List RegRange
  /-- `PROG_PRESENT`: the program addresses that hold memory -/
  progPresent : List ProgRange
  /-- `PROG_WRITE` -/
  progWrite : ProgWrite
  /-- `SP_ADDR` -/
  spAddr : Byte
  /-- `RESET_PC` -/
  resetPc : Word
  /-- `RESERVED_LEN` -/
  reservedLen : ReservedLen
  /-- `LDC_STORE_NIBBLES` -/
  ldcNibbles : NibbleOrder
  /-- `IRQ` -/
  irq : List IrqSource
  /-- `WDT_PERIOD`; `none` is "no timeout ever" -/
  wdtPeriod : Option Nat
  /-- whether the watch-dog runs in stop mode, which 60_exceptions.md R323 leaves open (log 41) -/
  wdtInStop : Bool
  /-- `ROT_V` -/
  rotV : RotVRule
  /-- `DA_FN` -/
  daFn : DaRule
  /-- `END_PC`, the harness's; `none` is its default -/
  endPc : Option Word
deriving DecidableEq, Repr

/-- The device `State.reset` is built with. R6's defaults for `RF_DEVICE`, `SP_ADDR`, `LDC_STORE_NIBBLES`,
`WDT_PERIOD`, `ROT_V`, `DA_FN`, and R352's for `END_PC`. DESIGN CHOICE (log 6): every register and every program
address present, no interrupt source. PRESUMED (log 7): `RESET_PC` is the family's 0020H. DESIGN CHOICE (log 8, log 9): program memory is
writable and a reserved op code is one byte long, so that both execute. DESIGN CHOICE (log 41): the watch-dog does not
run in stop mode. -/
def Device.default : Device where
  rfPresent := [⟨0x00#8, 0xFF#8⟩]
  rfDevice := []
  progPresent := [⟨0x0000#16, 0xFFFF#16⟩]
  progWrite := .perform
  spAddr := 0xFF#8
  resetPc := 0x0020#16
  reservedLen := .one
  ldcNibbles := .dstSrc
  irq := []
  wdtPeriod := none
  wdtInStop := false
  rotV := .signChanged
  daFn := .family
  endPc := none

/-- Free value (log 14): what read number `ordinal` of a peripheral register in instruction number `executed`
returns, "a draw per read" (10_state.md R25, 70_reset_and_hazards.md R353). -/
opaque Config.draw (executed ordinal : Nat) : Byte

/-- Free value (log 9): the length, less one, of a reserved op code under `RESERVED_LEN = free` (R106). -/
opaque Config.reservedLen (opcode : Byte) : Fin 3

/-- Free value (log 12): V after a rotate under `ROT_V = free` (R251; R6: `(op, old, new, oldC) -> bit`). -/
opaque Config.rotV (op : RotOp) (old new : Byte) (oldC : Bool) : Bool

/-- Free value (log 13): decimal adjust under `DA_FN = free` (R174; R6: `(byte, C, H, D) -> (byte, C)`). -/
opaque Config.daFn (v : Byte) (c h d : Bool) : Byte × Bool

/-- DESIGN CHOICE (log 2): RP after a restart; 10_state.md R47 gives it no value. -/
def Config.restartRp : Byte := 0x00#8

/-- DESIGN CHOICE (log 3): SP after a restart; R47 gives it no value. The start-up sequence of
70_reset_and_hazards.md R345 loads 80H; with 00H the first PUSH or CALL would be the case R43 refuses. -/
def Config.restartSp : Byte := 0x80#8

/-- IMR after a restart: bit 7 is 0 (R47); DESIGN CHOICE (log 2): bits 6:0, which R47 gives no value, are 0. -/
def Config.restartImr : Byte := 0x00#8

end Sys2Proof
end

