-- ==== Sys2Proof/Machine/Bits.lean ====
section
/-! DEFINITION. The bit slices, concatenations and sign extension of 00_scope.md R7 and R8, the byte order of
16-bit quantities (20_memory.md R62, R63), and the nibble order of D2H and D3H (30_encoding.md R95). -/

namespace Sys2Proof

/-- `b[7:4]`. -/
def hiNibble (b : Byte) : Nibble := b.extractLsb' 4 4

/-- `b[3:0]`. -/
def loNibble (b : Byte) : Nibble := b.extractLsb' 0 4

/-- `hi : lo`, a byte from its two nibbles. -/
def joinNibbles (hi lo : Nibble) : Byte := hi ++ lo

/-- `w[15:8]`. -/
def hiByte (w : Word) : Byte := w.extractLsb' 8 8

/-- `w[7:0]`. -/
def loByte (w : Word) : Byte := w.extractLsb' 0 8

/-- `hi : lo`, a word from its more and its less significant byte. -/
def joinBytes (hi lo : Byte) : Word := hi ++ lo

/-- The destination pair's number among the two nibbles of the operand byte of D2H and D3H (30_encoding.md R95). -/
def pairNibble (order : NibbleOrder) (hi lo : Nibble) : Nibble :=
  match order with
  | .dstSrc => hi
  | .srcDst => lo

/-- The source register's number there (R95). -/
def sourceNibble (order : NibbleOrder) (hi lo : Nibble) : Nibble :=
  match order with
  | .dstSrc => lo
  | .srcDst => hi

/-- `sext_16(v)` of R8. -/
def sext16 (v : Byte) : Word := v.signExtend 16

end Sys2Proof
end

