-- ==== Sys2Proof/Machine/State.lean ====
section
/-! DEFINITION. The state of the machine as plain data (10_state.md R20, R45, R46), the reasons a step stops, and the
state after reset (R47, 70_reset_and_hazards.md R343). -/

namespace Sys2Proof.Machine

/-- A memory: (address, byte) pairs in one canonical form (`Memory.wf`). -/
abbrev Memory := List Host.Cell

/-- What a register-file address that is not listed reads as. DESIGN CHOICE (log 1): 00H; R47 gives no value. -/
def regFill : Option Byte := some 0x00#8

/-- What a program address that is not listed reads as: nothing, and reading it faults (log 5). -/
def progFill : Option Byte := none

/-- `mode` of 10_state.md R46. -/
inductive Mode where
  | running
  | halted
  | stopped
deriving DecidableEq, Repr

/-- A change of a source's request between two instructions (60_exceptions.md R303). -/
inductive LineEvent where
  /-- the request is latched -/
  | request (source : Nat)
  /-- the request is withdrawn -/
  | withdraw (source : Nat)
deriving DecidableEq, Repr

/-- What the environment does at one boundary between instructions, all of it at once (60_exceptions.md R301, R303;
70_reset_and_hazards.md R353). `{}` is a boundary at which it does nothing. A watch-dog timeout that is due comes
of itself (60_exceptions.md R324) unless the environment still holds it back, as "at least that long" of R353 lets
it (log 18). -/
structure Boundary where
  /-- requests and withdrawals, in order -/
  requests : List LineEvent := []
  /-- the RESET pin is asserted (70_reset_and_hazards.md R340) -/
  resetPin : Bool := false
  /-- a watch-dog timeout that is due is not delivered at this boundary -/
  wdtHeld : Bool := false
  /-- a stop-mode recovery is delivered (R323) -/
  stopRecovery : Bool := false
deriving DecidableEq, Repr

/-- What the machine hands to the environment, in program order (R353). -/
inductive Emission where
  /-- the WDT instruction was executed (47_cpu_control.md R280) -/
  | wdtRefresh
  /-- a byte was written to a peripheral register (10_state.md R25, 20_memory.md R69) -/
  | deviceWrite (address value : Byte)
deriving DecidableEq, Repr

/-- Why the machine stops with a fault. -/
inductive Fault where
  /-- A program byte that is present and that nothing has loaded was fetched, read by LDC or LDCI, or read as a
  vector (R352: "the image covers every address the program fetches or reads"). Raised by the program-memory reads.
  Safe: the model stops where a device would go on with some byte (log 5). -/
  | unprogrammed
deriving DecidableEq, Repr

/-- Why the spec gives a situation no meaning (00_scope.md R8, R12: `refuse`). All are safe: the model stops where
the chip may go on. -/
inductive Refusal where
  /-- An instruction without a meaning in this model; raised by `exec`'s arm of that name. Safe. -/
  | notModelled (mnemonic : String)
  /-- A register-file address with `RF_PRESENT` false was read or written (10_state.md R24). Raised by every
  operand and stack access. Safe. -/
  | absentRegister
  /-- A peripheral register was used as a pointer, half of a pair, a stack cell or the destination of a
  read-modify-write instruction (20_memory.md R69, U12). Raised by those accesses. Safe. -/
  | deviceRegister
  /-- A register pair at an odd address (10_state.md R23). Raised by the pair operands. Safe. -/
  | oddPair
  /-- FLAGS is the destination of a flag-affecting instruction (10_state.md R40). Safe. -/
  | flagsDestination
  /-- PUSH from, or POP into, the SP register itself (40_load.md R157, R158). Safe. -/
  | spOperand
  /-- A stack access whose stack cell is the SP register itself (10_state.md R43). Safe. -/
  | stackOnSp
  /-- LDCI whose transferred cell or pointers overlap (45_block_transfer.md R240). Safe. -/
  | ldciOverlap
  /-- A program address with `PROG_PRESENT` false was fetched, read or stored to (20_memory.md R64). Safe. -/
  | absentProgram
  /-- A store to program memory on a device with `PROG_WRITE = refuse` (20_memory.md R66). Safe. -/
  | programStore
  /-- A reserved op code on a device with `RESERVED_LEN = refuse` (30_encoding.md R106). Safe. -/
  | reservedOpcode
  /-- STOP with WDTF or SMRF still set (47_cpu_control.md R279). Safe. -/
  | staleStop
  /-- A watch-dog timeout with WDTF still set (60_exceptions.md R324). Safe. -/
  | staleTimeout
deriving DecidableEq, Repr

/-- The whole state of the machine. -/
structure State where
  /-- the register file (R21); FLAGS, RP, IMR and SP are its cells FCH, FDH, FBH and `dev.spAddr` (R30) -/
  regs : Memory
  /-- program memory (R45) -/
  prog : Memory
  /-- the program counter (R28) -/
  pc : Word
  /-- the power mode (R46) -/
  mode : Mode
  /-- the latched interrupt requests (R46) -/
  pending : List Nat
  /-- the parameters of the device, fixed for a whole run (R6) -/
  dev : Device
  /-- the MODEL's: what the environment will do at the coming boundaries, and nothing after them (R353, log 18) -/
  script : List Boundary
  /-- what was handed to the environment, oldest first (R352) -/
  emitted : List Emission
  /-- the MODEL's: how many instructions were executed (R352, log 14) -/
  executed : Nat
  /-- the MODEL's: how many instruction times have passed since the last refresh or restart (R324, R353, log 20) -/
  sinceRefresh : Nat
  /-- the MODEL's: the run has ended at `END_PC` (R352, log 35) -/
  ended : Bool
deriving DecidableEq, Repr

/-- What a meaning answers: the three outcomes of one step. -/
abbrev Result := Host.Outcome State Fault Refusal

/-- The machine right after first power-on and the RESET pin (R47, R343): WDTF = SMRF = 0, IMR(7) = 0, `pending`
empty, `mode` Running, pc = `RESET_PC`. Nothing else has a value in the spec; the values are log 1, 2, 3. -/
def State.reset : State where
  regs := [(0xFF, Config.restartSp)]
  prog := []
  pc := Device.default.resetPc
  mode := .running
  pending := []
  dev := Device.default
  script := []
  emitted := []
  executed := 0
  sinceRefresh := 0
  ended := false

end Sys2Proof.Machine
end

