-- ==== Sys2Proof/Machine/Ops.lean ====
section
/-! DEFINITION. The named operations over memory, registers and the stack that every meaning is built from, and the
taking of an interrupt and the return from one. -/

namespace Sys2Proof.Machine

/-! ## Memories as canonical lists -/

/-- The byte listed at an address, if any. -/
def Memory.find? : Memory → Nat → Option Byte
  | [], _ => none
  | (k, v) :: m, a => if a = k then some v else Memory.find? m a

/-- The list with `v` at `a`, addresses kept rising. -/
def Memory.insert : Memory → Nat → Byte → Memory
  | [], a, v => [(a, v)]
  | (k, w) :: m, a, v =>
    if a < k then (a, v) :: (k, w) :: m
    else if a = k then (a, v) :: m
    else (k, w) :: Memory.insert m a v

/-- The list without `a`. -/
def Memory.erase : Memory → Nat → Memory
  | [], _ => []
  | (k, w) :: m, a => if a = k then Memory.erase m a else (k, w) :: Memory.erase m a

/-- One byte, where `fill` is what an unlisted address reads as. -/
def Memory.read (fill : Option Byte) (m : Memory) (a : Nat) : Option Byte :=
  match Memory.find? m a with
  | some v => some v
  | none => fill

/-- Store one byte; storing what an unlisted address reads as removes the entry. -/
def Memory.write (fill : Option Byte) (m : Memory) (a : Nat) (v : Byte) : Memory :=
  if some v = fill then Memory.erase m a else Memory.insert m a v

/-- The canonical form: addresses below `size` and strictly rising, no entry equal to what an unlisted address reads
as. -/
abbrev Memory.wf (fill : Option Byte) (size : Nat) (m : Memory) : Prop :=
  m.Pairwise (fun c d => c.1 < d.1) ∧ ∀ c ∈ m, c.1 < size ∧ some c.2 ≠ fill

/-! ## Guards: the situations the spec refuses -/

/-- Refuse with the first reason present, else go on (00_scope.md R8: `refuse`). -/
def guarded : List (Option Refusal) → Result → Result
  | [], k => k
  | some r :: _, _ => .refused r
  | none :: stops, k => guarded stops k

/-- A refusal under a condition. -/
def stopIf (b : Bool) (r : Refusal) : Option Refusal := if b then some r else none

/-! ## What a device has at an address -/

/-- `RF_PRESENT(a)` (R6, 10_state.md R24). -/
def hasRegister (d : Device) (a : Byte) : Bool :=
  d.rfPresent.any fun r => decide (r.lo ≤ a) && decide (a ≤ r.hi)

/-- `RF_DEVICE(a)` (R6, 10_state.md R25): one of the present addresses, and a peripheral register. -/
def isDevice (d : Device) (a : Byte) : Bool :=
  d.rfDevice.any fun r => decide (r.lo ≤ a) && decide (a ≤ r.hi)

/-- `PROG_PRESENT(a)` (R6, 20_memory.md R64). -/
def hasProgram (d : Device) (a : Word) : Bool :=
  d.progPresent.any fun r => decide (r.lo ≤ a) && decide (a ≤ r.hi)

/-- Why a plain read or write of `x[a]` is refused: the address is absent (R24). -/
def State.accessStop (s : State) (a : Byte) : Option Refusal :=
  stopIf (!hasRegister s.dev a) .absentRegister

/-- Why `x[a]` may not be a pointer, half of a pair or a read-modify-write destination: it is absent (R24) or a
peripheral register (20_memory.md R69, U12). -/
def State.useStop (s : State) (a : Byte) : Option Refusal :=
  if hasRegister s.dev a then stopIf (isDevice s.dev a) .deviceRegister else some .absentRegister

/-- Why `a` may not be the address of a register pair: it is odd (10_state.md R23), or a half may not be used. -/
def State.pairStop (s : State) (a : Byte) : Option Refusal :=
  if a.getLsbD 0 then some .oddPair
  else (s.useStop a).orElse fun _ => s.useStop (a + 1)

/-- Why `a` may not be a stack cell: it is the SP register (10_state.md R43), absent, or a peripheral (U12). -/
def State.stackStop (s : State) (a : Byte) : Option Refusal :=
  if a = s.dev.spAddr then some .stackOnSp else s.useStop a

/-- Why a program address may not be accessed: it is absent (20_memory.md R64). -/
def State.progStop (s : State) (a : Word) : Option Refusal :=
  stopIf (!hasProgram s.dev a) .absentProgram

/-! ## The register file -/

/-- `x[a]`, the cell (R8, R61). -/
def State.reg (s : State) (a : Byte) : Byte := (Memory.read regFill s.regs a.toNat).getD 0

/-- `x[a] <- v`, the cell (R8, R61). -/
def State.setReg (s : State) (a v : Byte) : State := { s with regs := Memory.write regFill s.regs a.toNat v }

/-- FLAGS is register FCH (10_state.md R31). -/
def flagsAddr : Byte := 0xFC#8

/-- RP is register FDH (10_state.md R41). -/
def rpAddr : Byte := 0xFD#8

/-- IMR is register FBH (10_state.md R42). -/
def imrAddr : Byte := 0xFB#8

def State.flags (s : State) : Byte := s.reg flagsAddr
def State.rp (s : State) : Byte := s.reg rpAddr
def State.imr (s : State) : Byte := s.reg imrAddr

/-- SP, the register at `SP_ADDR` (10_state.md R43). -/
def State.sp (s : State) : Byte := s.reg s.dev.spAddr

def State.setFlags (s : State) (v : Byte) : State := s.setReg flagsAddr v
def State.setRp (s : State) (v : Byte) : State := s.setReg rpAddr v
def State.setImr (s : State) (v : Byte) : State := s.setReg imrAddr v
def State.setSp (s : State) (v : Byte) : State := s.setReg s.dev.spAddr v

/-- The value of a plain read of `x[a]`: a peripheral register gives the environment's draw (10_state.md R25),
every other register its contents. `ordinal` tells the draws of one instruction apart. -/
def State.plain (s : State) (ordinal : Nat) (a : Byte) : Byte :=
  if isDevice s.dev a then Config.draw s.executed ordinal else s.reg a

/-- Hand something to the environment (70_reset_and_hazards.md R353). -/
def State.emit (s : State) (e : Emission) : State := { s with emitted := s.emitted ++ [e] }

/-- A plain write of `x[a]`: to a peripheral register it is an event (10_state.md R25). -/
def State.put (s : State) (a v : Byte) : State :=
  if isDevice s.dev a then s.emit (.deviceWrite a v) else s.setReg a v

/-- `wr(n)`: `RP[7:4] : n` (10_state.md R22). -/
def State.wr (s : State) (n : Nibble) : Byte := joinNibbles (hiNibble s.rp) n

/-- `reg8(b)`: the E escape (30_encoding.md R96). -/
def State.reg8 (s : State) (b : Byte) : Byte := if hiNibble b = 0xE#4 then s.wr (loNibble b) else b

/-- `xw[a]`: the even register is bits 15:8 (10_state.md R23). -/
def State.pair (s : State) (a : Byte) : Word := joinBytes (s.reg a) (s.reg (a + 1))

/-- `xw[a] <- v`: `x[a] <- v[15:8]`, then `x[a+1] <- v[7:0]` (R8). -/
def State.setPair (s : State) (a : Byte) (v : Word) : State :=
  (s.setReg a (hiByte v)).setReg (a + 1) (loByte v)

/-! ## The program counter and program memory -/

/-- `pc <- target`. -/
def State.goto (s : State) (target : Word) : State := { s with pc := target }

/-- `pc_next`: `(A + L) mod 2^16` (10_state.md R29). -/
def State.pcNext (s : State) (length : Word) : Word := s.pc + length

/-- `pc <- pc_next`. -/
def State.advance (s : State) (length : Word) : State := s.goto (s.pcNext length)

/-- `(pc_next + sext_16(offset)) mod 2^16` (30_encoding.md R97: RA). -/
def State.relative (s : State) (length : Word) (offset : Byte) : Word := s.pcNext length + sext16 offset

/-- The program byte at an address, if one was loaded (20_memory.md R65). -/
def State.progByte (s : State) (a : Word) : Option Byte := Memory.read progFill s.prog a.toNat

/-- Store a program byte (20_memory.md R66). -/
def State.setProgByte (s : State) (a : Word) (v : Byte) : State :=
  { s with prog := Memory.write progFill s.prog a.toNat v }

/-- Store bytes at rising program addresses, modulo 2^16: the load of a program image (R352). -/
def State.loadProgram : State → Word → List Byte → State
  | s, _, [] => s
  | s, a, b :: bs => State.loadProgram (s.setProgByte a b) (a + 1) bs

/-- `MemRead(a, 1)` and what is done with the byte (20_memory.md R64, R65). -/
def State.withProgByte (s : State) (a : Word) (k : Byte → Result) :
    Result :=
  guarded [s.progStop a] <|
    match s.progByte a with
    | some v => k v
    | none => .fault .unprogrammed

/-- `MemWrite(a, 1, v)` under `PROG_WRITE`, then the rest of the instruction (20_memory.md R66). -/
def State.storeProgByte (s : State) (a : Word) (v : Byte) (k : State → State) : Result :=
  guarded [s.progStop a] <|
    match s.dev.progWrite with
    | .refuse => .refused .programStore
    | .ignore => .next (k s)
    | .perform => .next (k (s.setProgByte a v))

/-! ## The stack -/

/-- `SP <- SP - 2`, and a 16-bit PC value stored with bits 15:8 at the lower address (20_memory.md R63). -/
def State.pushWord (s : State) (v : Word) : State :=
  let sp := s.sp - 2
  ((s.setSp sp).setReg sp (hiByte v)).setReg (sp + 1) (loByte v)

/-- Why two bytes may not be pushed: a stack cell is refused (10_state.md R43). -/
def State.pushWordStops (s : State) : List (Option Refusal) :=
  [s.stackStop (s.sp - 2), s.stackStop (s.sp - 1)]

/-- The 16-bit PC value at the top of the stack (20_memory.md R63). -/
def State.topWord (s : State) : Word := joinBytes (s.reg s.sp) (s.reg (s.sp + 1))

/-! ## Interrupt entry and return -/

/-- The three stack bytes and IMR(7) of interrupt entry, in the order of the pseudocode (60_exceptions.md R307). -/
def State.interruptFrame (s : State) : State :=
  let s1 := s.pushWord s.pc
  let s2 := s1.setSp (s1.sp - 1)
  let s3 := s2.setReg s2.sp s2.flags
  s3.setImr (s3.imr &&& 0x7F#8)

/-- Why interrupt entry is refused: one of its three stack cells is (10_state.md R43, R313). -/
def State.interruptStops (s : State) : List (Option Refusal) :=
  s.pushWordStops ++ [s.stackStop (s.sp - 3)]

/-- TAKING AN INTERRUPT: `InterruptEntry(s)` (60_exceptions.md R307), with the handler address of R309. -/
def State.interruptEntry (s : State) (h : IrqHandler) : Result :=
  guarded s.interruptStops <|
    match h with
    | .fixed a => .next (s.interruptFrame.goto a)
    | .vectored v =>
      s.withProgByte v fun hi => s.withProgByte (v + 1) fun lo =>
        .next (s.interruptFrame.goto (joinBytes hi lo))

/-- RETURNING FROM ONE: the effect of IRET, in the order of its pseudocode (43_program_control.md R214). -/
def State.interruptReturn (s : State) : State :=
  let s1 := s.setFlags (s.reg s.sp)
  let s2 := s1.setSp (s1.sp + 1)
  let target := s2.topWord
  let s3 := s2.setSp (s2.sp + 2)
  (s3.setImr (s3.imr ||| 0x80#8)).goto target

/-- Why IRET is refused: one of its three stack cells is (10_state.md R43). -/
def State.interruptReturnStops (s : State) : List (Option Refusal) :=
  [s.stackStop s.sp, s.stackStop (s.sp + 1), s.stackStop (s.sp + 2)]

/-! ## Restarts -/

/-- What every restart does (10_state.md R47): IMR(7) = 0, `pending` empty, `mode` Running, pc = `RESET_PC`, RP, SP
and IMR(6:0) without a value in the spec, so at the values of log 2 and log 3 (log 4); general registers, program
memory and FLAGS unchanged. -/
def State.restart (s : State) : State :=
  { (((s.setImr Config.restartImr).setRp Config.restartRp).setSp Config.restartSp) with
    pc := s.dev.resetPc
    mode := .running
    pending := []
    sinceRefresh := 0 }

end Sys2Proof.Machine
end

