-- ==== Sys2Proof/Syntax.lean ====
section
/-! DEFINITION. The instructions: one constructor for each row of `opcode_table.json` (30_encoding.md R100, R101), in
the table's order. A constructor's name is the mnemonic and the operand kinds of 00_scope.md R11 in the assembler's
order, destination first. The 26 reserved op codes are rows of the table (R105) and have a constructor each. -/

namespace Sys2Proof

/-- The sixteen condition codes of 30_encoding.md R110; `never` is code 0 (F), `always` code 8 (no mnemonic). -/
inductive Cond where
  | never
  | lt
  | le
  | ule
  | ov
  | mi
  | z
  | c
  | always
  | ge
  | gt
  | ugt
  | nov
  | pl
  | nz
  | nc
deriving DecidableEq, Repr

/-- The instruction set. `dst` is a destination, `src` a source, `imm` an immediate, `b` the one register operand byte,
`p` a working-register pair; a `Nibble` is a working-register number and a `Byte` an operand byte that goes through the
E escape (R96), but for immediates, offsets and the base of an indexed operand. -/
inductive Instr where
  /-- 02H: ADD, R172 -/
  | add_r_r (dst : Nibble) (src : Nibble)
  /-- 03H: ADD, R172 -/
  | add_r_Ir (dst : Nibble) (src : Nibble)
  /-- 04H: ADD, R172 -/
  | add_R_R (dst : Byte) (src : Byte)
  /-- 05H: ADD, R172 -/
  | add_R_IR (dst : Byte) (src : Byte)
  /-- 06H: ADD, R172 -/
  | add_R_IM (dst : Byte) (imm : Byte)
  /-- 07H: ADD, R172 -/
  | add_IR_IM (dst : Byte) (imm : Byte)
  /-- 12H: ADC, R171 -/
  | adc_r_r (dst : Nibble) (src : Nibble)
  /-- 13H: ADC, R171 -/
  | adc_r_Ir (dst : Nibble) (src : Nibble)
  /-- 14H: ADC, R171 -/
  | adc_R_R (dst : Byte) (src : Byte)
  /-- 15H: ADC, R171 -/
  | adc_R_IR (dst : Byte) (src : Byte)
  /-- 16H: ADC, R171 -/
  | adc_R_IM (dst : Byte) (imm : Byte)
  /-- 17H: ADC, R171 -/
  | adc_IR_IM (dst : Byte) (imm : Byte)
  /-- 22H: SUB, R180 -/
  | sub_r_r (dst : Nibble) (src : Nibble)
  /-- 23H: SUB, R180 -/
  | sub_r_Ir (dst : Nibble) (src : Nibble)
  /-- 24H: SUB, R180 -/
  | sub_R_R (dst : Byte) (src : Byte)
  /-- 25H: SUB, R180 -/
  | sub_R_IR (dst : Byte) (src : Byte)
  /-- 26H: SUB, R180 -/
  | sub_R_IM (dst : Byte) (imm : Byte)
  /-- 27H: SUB, R180 -/
  | sub_IR_IM (dst : Byte) (imm : Byte)
  /-- 32H: SBC, R179 -/
  | sbc_r_r (dst : Nibble) (src : Nibble)
  /-- 33H: SBC, R179 -/
  | sbc_r_Ir (dst : Nibble) (src : Nibble)
  /-- 34H: SBC, R179 -/
  | sbc_R_R (dst : Byte) (src : Byte)
  /-- 35H: SBC, R179 -/
  | sbc_R_IR (dst : Byte) (src : Byte)
  /-- 36H: SBC, R179 -/
  | sbc_R_IM (dst : Byte) (imm : Byte)
  /-- 37H: SBC, R179 -/
  | sbc_IR_IM (dst : Byte) (imm : Byte)
  /-- 42H: OR, R203 -/
  | or_r_r (dst : Nibble) (src : Nibble)
  /-- 43H: OR, R203 -/
  | or_r_Ir (dst : Nibble) (src : Nibble)
  /-- 44H: OR, R203 -/
  | or_R_R (dst : Byte) (src : Byte)
  /-- 45H: OR, R203 -/
  | or_R_IR (dst : Byte) (src : Byte)
  /-- 46H: OR, R203 -/
  | or_R_IM (dst : Byte) (imm : Byte)
  /-- 47H: OR, R203 -/
  | or_IR_IM (dst : Byte) (imm : Byte)
  /-- 52H: AND, R201 -/
  | and_r_r (dst : Nibble) (src : Nibble)
  /-- 53H: AND, R201 -/
  | and_r_Ir (dst : Nibble) (src : Nibble)
  /-- 54H: AND, R201 -/
  | and_R_R (dst : Byte) (src : Byte)
  /-- 55H: AND, R201 -/
  | and_R_IR (dst : Byte) (src : Byte)
  /-- 56H: AND, R201 -/
  | and_R_IM (dst : Byte) (imm : Byte)
  /-- 57H: AND, R201 -/
  | and_IR_IM (dst : Byte) (imm : Byte)
  /-- 62H: TCM, R231 -/
  | tcm_r_r (dst : Nibble) (src : Nibble)
  /-- 63H: TCM, R231 -/
  | tcm_r_Ir (dst : Nibble) (src : Nibble)
  /-- 64H: TCM, R231 -/
  | tcm_R_R (dst : Byte) (src : Byte)
  /-- 65H: TCM, R231 -/
  | tcm_R_IR (dst : Byte) (src : Byte)
  /-- 66H: TCM, R231 -/
  | tcm_R_IM (dst : Byte) (imm : Byte)
  /-- 67H: TCM, R231 -/
  | tcm_IR_IM (dst : Byte) (imm : Byte)
  /-- 72H: TM, R232 -/
  | tm_r_r (dst : Nibble) (src : Nibble)
  /-- 73H: TM, R232 -/
  | tm_r_Ir (dst : Nibble) (src : Nibble)
  /-- 74H: TM, R232 -/
  | tm_R_R (dst : Byte) (src : Byte)
  /-- 75H: TM, R232 -/
  | tm_R_IR (dst : Byte) (src : Byte)
  /-- 76H: TM, R232 -/
  | tm_R_IM (dst : Byte) (imm : Byte)
  /-- 77H: TM, R232 -/
  | tm_IR_IM (dst : Byte) (imm : Byte)
  /-- A2H: CP, R173 -/
  | cp_r_r (dst : Nibble) (src : Nibble)
  /-- A3H: CP, R173 -/
  | cp_r_Ir (dst : Nibble) (src : Nibble)
  /-- A4H: CP, R173 -/
  | cp_R_R (dst : Byte) (src : Byte)
  /-- A5H: CP, R173 -/
  | cp_R_IR (dst : Byte) (src : Byte)
  /-- A6H: CP, R173 -/
  | cp_R_IM (dst : Byte) (imm : Byte)
  /-- A7H: CP, R173 -/
  | cp_IR_IM (dst : Byte) (imm : Byte)
  /-- B2H: XOR, R204 -/
  | xor_r_r (dst : Nibble) (src : Nibble)
  /-- B3H: XOR, R204 -/
  | xor_r_Ir (dst : Nibble) (src : Nibble)
  /-- B4H: XOR, R204 -/
  | xor_R_R (dst : Byte) (src : Byte)
  /-- B5H: XOR, R204 -/
  | xor_R_IR (dst : Byte) (src : Byte)
  /-- B6H: XOR, R204 -/
  | xor_R_IM (dst : Byte) (imm : Byte)
  /-- B7H: XOR, R204 -/
  | xor_IR_IM (dst : Byte) (imm : Byte)
  /-- 00H: DEC, R175 -/
  | dec_R (b : Byte)
  /-- 01H: DEC, R175 -/
  | dec_IR (b : Byte)
  /-- 10H: RLC, R253 -/
  | rlc_R (b : Byte)
  /-- 11H: RLC, R253 -/
  | rlc_IR (b : Byte)
  /-- 20H: INC, R177 -/
  | inc_R (b : Byte)
  /-- 21H: INC, R177 -/
  | inc_IR (b : Byte)
  /-- 40H: DA, R174 -/
  | da_R (b : Byte)
  /-- 41H: DA, R174 -/
  | da_IR (b : Byte)
  /-- 50H: POP, R157 -/
  | pop_R (b : Byte)
  /-- 51H: POP, R157 -/
  | pop_IR (b : Byte)
  /-- 60H: COM, R202 -/
  | com_R (b : Byte)
  /-- 61H: COM, R202 -/
  | com_IR (b : Byte)
  /-- 70H: PUSH, R158 -/
  | push_R (b : Byte)
  /-- 71H: PUSH, R158 -/
  | push_IR (b : Byte)
  /-- 80H: DECW, R176 -/
  | decw_RR (b : Byte)
  /-- 81H: DECW, R176 -/
  | decw_IR (b : Byte)
  /-- 90H: RL, R252 -/
  | rl_R (b : Byte)
  /-- 91H: RL, R252 -/
  | rl_IR (b : Byte)
  /-- A0H: INCW, R178 -/
  | incw_RR (b : Byte)
  /-- A1H: INCW, R178 -/
  | incw_IR (b : Byte)
  /-- B0H: CLR, R141 -/
  | clr_R (b : Byte)
  /-- B1H: CLR, R141 -/
  | clr_IR (b : Byte)
  /-- C0H: RRC, R255 -/
  | rrc_R (b : Byte)
  /-- C1H: RRC, R255 -/
  | rrc_IR (b : Byte)
  /-- D0H: SRA, R256 -/
  | sra_R (b : Byte)
  /-- D1H: SRA, R256 -/
  | sra_IR (b : Byte)
  /-- E0H: RR, R254 -/
  | rr_R (b : Byte)
  /-- E1H: RR, R254 -/
  | rr_IR (b : Byte)
  /-- F0H: SWAP, R257 -/
  | swap_R (b : Byte)
  /-- F1H: SWAP, R257 -/
  | swap_IR (b : Byte)
  /-- 30H: JP, R216 -/
  | jp_IRR (b : Byte)
  /-- 31H: SRP, R278 -/
  | srp_IM (imm : Byte)
  /-- C2H: LDC, R155 -/
  | ldc_r_Irr (dst : Nibble) (p : Nibble)
  /-- C3H: LDCI, R241 -/
  | ldci_Ir_Irr (n : Nibble) (p : Nibble)
  /-- C7H: LD, R145 -/
  | ld_r_X (dst : Nibble) (x : Nibble) (base : Byte)
  /-- D2H: LDC, R156; the two nibbles of the operand byte, ordered by `LDC_STORE_NIBBLES` (R95) -/
  | ldc_Irr_r (hi : Nibble) (lo : Nibble)
  /-- D3H: LDCI, R242; the two nibbles of the operand byte, ordered by `LDC_STORE_NIBBLES` (R95) -/
  | ldci_Irr_Ir (hi : Nibble) (lo : Nibble)
  /-- D4H: CALL, R212 -/
  | call_IRR (b : Byte)
  /-- D6H: CALL, R211 -/
  | call_DA (target : Word)
  /-- D7H: LD, R146 -/
  | ld_X_r (src : Nibble) (x : Nibble) (base : Byte)
  /-- E3H: LD, R147 -/
  | ld_r_Ir (dst : Nibble) (src : Nibble)
  /-- E4H: LD, R149 -/
  | ld_R_R (dst : Byte) (src : Byte)
  /-- E5H: LD, R150 -/
  | ld_R_IR (dst : Byte) (src : Byte)
  /-- E6H: LD, R151 -/
  | ld_R_IM (dst : Byte) (imm : Byte)
  /-- E7H: LD, R152 -/
  | ld_IR_IM (dst : Byte) (imm : Byte)
  /-- F3H: LD, R148 -/
  | ld_Ir_r (dst : Nibble) (src : Nibble)
  /-- F5H: LD, R153 -/
  | ld_IR_R (dst : Byte) (src : Byte)
  /-- 5FH: WDT, R280 -/
  | wdt
  /-- 6FH: STOP, R279 -/
  | stop
  /-- 7FH: HALT, R274 -/
  | halt
  /-- 8FH: DI, R272 -/
  | di
  /-- 9FH: EI, R273 -/
  | ei
  /-- AFH: RET, R218 -/
  | ret
  /-- BFH: IRET, R214 -/
  | iret
  /-- CFH: RCF, R276 -/
  | rcf
  /-- DFH: SCF, R277 -/
  | scf
  /-- EFH: CCF, R271 -/
  | ccf
  /-- FFH: NOP, R275 -/
  | nop
  /-- x8H: LD, R143 -/
  | ld_r_R (dst : Nibble) (src : Byte)
  /-- x9H: LD, R144 -/
  | ld_R_r (dst : Byte) (src : Nibble)
  /-- xAH: DJNZ, R213 -/
  | djnz_r_RA (n : Nibble) (offset : Byte)
  /-- xBH: JR, R217 -/
  | jr_cc_RA (cc : Cond) (offset : Byte)
  /-- xCH: LD, R142 -/
  | ld_r_IM (dst : Nibble) (imm : Byte)
  /-- xDH: JP, R215 -/
  | jp_cc_DA (cc : Cond) (target : Word)
  /-- xEH: INC, R177 -/
  | inc_r (dst : Nibble)
  /-- 0FH: reserved op code (R105) -/
  | reserved_0F
  /-- 1FH: reserved op code (R105) -/
  | reserved_1F
  /-- 2FH: reserved op code (R105) -/
  | reserved_2F
  /-- 3FH: reserved op code (R105) -/
  | reserved_3F
  /-- 4FH: reserved op code (R105) -/
  | reserved_4F
  /-- 82H: reserved op code (R105) -/
  | reserved_82
  /-- 83H: reserved op code (R105) -/
  | reserved_83
  /-- 84H: reserved op code (R105) -/
  | reserved_84
  /-- 85H: reserved op code (R105) -/
  | reserved_85
  /-- 86H: reserved op code (R105) -/
  | reserved_86
  /-- 87H: reserved op code (R105) -/
  | reserved_87
  /-- 92H: reserved op code (R105) -/
  | reserved_92
  /-- 93H: reserved op code (R105) -/
  | reserved_93
  /-- 94H: reserved op code (R105) -/
  | reserved_94
  /-- 95H: reserved op code (R105) -/
  | reserved_95
  /-- 96H: reserved op code (R105) -/
  | reserved_96
  /-- 97H: reserved op code (R105) -/
  | reserved_97
  /-- C4H: reserved op code (R105) -/
  | reserved_C4
  /-- C5H: reserved op code (R105) -/
  | reserved_C5
  /-- C6H: reserved op code (R105) -/
  | reserved_C6
  /-- D5H: reserved op code (R105) -/
  | reserved_D5
  /-- E2H: reserved op code (R105) -/
  | reserved_E2
  /-- F2H: reserved op code (R105) -/
  | reserved_F2
  /-- F4H: reserved op code (R105) -/
  | reserved_F4
  /-- F6H: reserved op code (R105) -/
  | reserved_F6
  /-- F7H: reserved op code (R105) -/
  | reserved_F7
deriving DecidableEq, Repr

end Sys2Proof
end

