-- ==== Sys2Proof/Machine/Flags.lean ====
section
/-! DEFINITION. FLAGS bit by bit, every flag computation the spec gives, and the condition codes.
Integer expressions are computed without wrap-around, as 41_arithmetic.md R170 says. -/

namespace Sys2Proof.Machine

/-! ## The bits of FLAGS (10_state.md R31) -/

def flagC (f : Byte) : Bool := f.getLsbD 7
def flagZ (f : Byte) : Bool := f.getLsbD 6
def flagS (f : Byte) : Bool := f.getLsbD 5
def flagV (f : Byte) : Bool := f.getLsbD 4
def flagD (f : Byte) : Bool := f.getLsbD 3
def flagH (f : Byte) : Bool := f.getLsbD 2
def flagWdt (f : Byte) : Bool := f.getLsbD 1
def flagSmr (f : Byte) : Bool := f.getLsbD 0

/-- The FLAGS byte with these eight bits, bit 7 first. -/
def packFlags (c z s v d h wdt smr : Bool) : Byte :=
  BitVec.ofBool c ++ BitVec.ofBool z ++ BitVec.ofBool s ++ BitVec.ofBool v ++
    BitVec.ofBool d ++ BitVec.ofBool h ++ BitVec.ofBool wdt ++ BitVec.ofBool smr

/-- One row of the "Flags Affected" columns (10_state.md R48): `none` is "-", `some b` a flag that takes `b`. -/
structure FlagUpdate where
  c : Option Bool := none
  z : Option Bool := none
  s : Option Bool := none
  v : Option Bool := none
  d : Option Bool := none
  h : Option Bool := none
deriving DecidableEq, Repr

/-- FLAGS after the update: the other flags, and bits 1 and 0 always, as before. -/
def FlagUpdate.apply (u : FlagUpdate) (f : Byte) : Byte :=
  packFlags (u.c.getD (flagC f)) (u.z.getD (flagZ f)) (u.s.getD (flagS f)) (u.v.getD (flagV f))
    (u.d.getD (flagD f)) (u.h.getD (flagH f)) (flagWdt f) (flagSmr f)

def State.updateFlags (s : State) (u : FlagUpdate) : State := s.setFlags (u.apply s.flags)

/-- `Z <- (res = 0)` on a byte (R33). -/
def zeroOf (res : Byte) : Bool := decide (res = 0#8)

/-- `S <- res[7]` (R34). -/
def signOf (res : Byte) : Bool := res.getLsbD 7

/-- A true result outside -128..127 (R35). -/
def overflow8 (x : Int) : Bool := decide (x > 127) || decide (x < -128)

/-! ## Results and flags of the two-operand instructions -/

/-- `a + s + cin`, all six flags (41_arithmetic.md R171; R172 with `cin = 0`). -/
def addOp (cin : Bool) (a s : Byte) : Byte × FlagUpdate :=
  let full := a.toNat + s.toNat + cin.toNat
  let res := BitVec.ofNat 8 full
  (res,
    { c := some (decide (full > 255))
      z := some (zeroOf res)
      s := some (signOf res)
      v := some (overflow8 (a.toInt + s.toInt + cin.toNat))
      d := some false
      h := some (decide (a.toNat % 16 + s.toNat % 16 + cin.toNat > 15)) })

/-- `a - s - cin`, all six flags (R179; R180 with `cin = 0`); C and H are borrows. -/
def subOp (cin : Bool) (a s : Byte) : Byte × FlagUpdate :=
  let res := BitVec.ofInt 8 ((a.toNat : Int) - s.toNat - cin.toNat)
  (res,
    { c := some (decide (a.toNat < s.toNat + cin.toNat))
      z := some (zeroOf res)
      s := some (signOf res)
      v := some (overflow8 (a.toInt - s.toInt - cin.toNat))
      d := some true
      h := some (decide (a.toNat % 16 < s.toNat % 16 + cin.toNat)) })

/-- The flags of CP: C, Z, S, V as SUB, D and H left alone (R173). -/
def cpFlags (a s : Byte) : FlagUpdate := { (subOp false a s).2 with d := none, h := none }

/-- Z and S from the result, V cleared, C, D, H left alone (42_logical.md R200, 44_bit_manipulation.md R230). -/
def logicFlags (res : Byte) : FlagUpdate :=
  { z := some (zeroOf res), s := some (signOf res), v := some false }

/-- R201. -/
def andOp (a s : Byte) : Byte × FlagUpdate := (a &&& s, logicFlags (a &&& s))
/-- R203. -/
def orOp (a s : Byte) : Byte × FlagUpdate := (a ||| s, logicFlags (a ||| s))
/-- R204. -/
def xorOp (a s : Byte) : Byte × FlagUpdate := (a ^^^ s, logicFlags (a ^^^ s))
/-- R231. -/
def tcmFlags (a s : Byte) : FlagUpdate := logicFlags ((a ^^^ 0xFF#8) &&& s)
/-- R232. -/
def tmFlags (a s : Byte) : FlagUpdate := logicFlags (a &&& s)

/-! ## Results and flags of the one-operand instructions -/

/-- R202. -/
def comOp (a : Byte) : Byte × FlagUpdate := (a ^^^ 0xFF#8, logicFlags (a ^^^ 0xFF#8))

/-- R177: C, D, H unchanged. -/
def incOp (a : Byte) : Byte × FlagUpdate :=
  (a + 1, { z := some (zeroOf (a + 1)), s := some (signOf (a + 1)), v := some (decide (a = 0x7F#8)) })

/-- R175: C, D, H unchanged. -/
def decOp (a : Byte) : Byte × FlagUpdate :=
  (a - 1, { z := some (zeroOf (a - 1)), s := some (signOf (a - 1)), v := some (decide (a = 0x80#8)) })

/-- R178: Z, S, V on the 16-bit result (D14, log 25). -/
def incwOp (a : Word) : Word × FlagUpdate :=
  (a + 1, { z := some (decide (a + 1 = 0#16)), s := some ((a + 1).getLsbD 15), v := some (decide (a = 0x7FFF#16)) })

/-- R176: Z, S, V on the 16-bit result (D14, log 25). -/
def decwOp (a : Word) : Word × FlagUpdate :=
  (a - 1, { z := some (decide (a - 1 = 0#16)), s := some ((a - 1).getLsbD 15), v := some (decide (a = 0x8000#16)) })

/-- The default `DA_FN`: the algorithm of 41_arithmetic.md R174, which agrees with every row of its table. -/
def daFamily (v : Byte) (c h d : Bool) : Byte × Bool :=
  if d then
    (v + (if h then 0xFA#8 else 0#8) + (if c then 0xA0#8 else 0#8), c)
  else
    let low := h || decide (v.toNat % 16 > 9)
    let high := c || decide (v.toNat > 0x99)
    (v + (if low then 0x06#8 else 0#8) + (if high then 0x60#8 else 0#8), high)

/-- `DA_FN` of the device (R174, log 13). -/
def daFn (dev : Device) (v : Byte) (c h d : Bool) : Byte × Bool :=
  match dev.daFn with
  | .family => daFamily v c h d
  | .free => Config.daFn v c h d

/-- R174: C, Z, S written; V, D, H unchanged. `f` is FLAGS before the instruction. -/
def daOp (dev : Device) (f a : Byte) : Byte × FlagUpdate :=
  let r := daFn dev a (flagC f) (flagH f) (flagD f)
  (r.1, { c := some r.2, z := some (zeroOf r.1), s := some (signOf r.1) })

/-- `ROT_V` of the device (46_rotate_shift.md R251, log 12). -/
def rotV (dev : Device) (op : RotOp) (old new : Byte) (oldC : Bool) : Bool :=
  match dev.rotV with
  | .signChanged => old.getLsbD 7 != new.getLsbD 7
  | .free => Config.rotV op old new oldC

/-- C from the bit shifted out, Z and S from the result, V by `ROT_V`; D, H unchanged (R250, R251). -/
def rotFlags (dev : Device) (op : RotOp) (old new : Byte) (oldC out : Bool) : FlagUpdate :=
  { c := some out, z := some (zeroOf new), s := some (signOf new), v := some (rotV dev op old new oldC) }

/-- `a[6:0] : in`. -/
def shiftInLow (a : Byte) (b : Bool) : Byte := a.extractLsb' 0 7 ++ BitVec.ofBool b

/-- `in : a[7:1]`. -/
def shiftInHigh (a : Byte) (b : Bool) : Byte := BitVec.ofBool b ++ a.extractLsb' 1 7

/-- R252. `cin` is C before; only `ROT_V` may use it. -/
def rlOp (dev : Device) (cin : Bool) (a : Byte) : Byte × FlagUpdate :=
  let res := shiftInLow a (a.getLsbD 7)
  (res, rotFlags dev .rl a res cin (a.getLsbD 7))

/-- R253. -/
def rlcOp (dev : Device) (cin : Bool) (a : Byte) : Byte × FlagUpdate :=
  let res := shiftInLow a cin
  (res, rotFlags dev .rlc a res cin (a.getLsbD 7))

/-- R254. `cin` is C before; only `ROT_V` may use it. -/
def rrOp (dev : Device) (cin : Bool) (a : Byte) : Byte × FlagUpdate :=
  let res := shiftInHigh a (a.getLsbD 0)
  (res, rotFlags dev .rr a res cin (a.getLsbD 0))

/-- R255. -/
def rrcOp (dev : Device) (cin : Bool) (a : Byte) : Byte × FlagUpdate :=
  let res := shiftInHigh a cin
  (res, rotFlags dev .rrc a res cin (a.getLsbD 0))

/-- R256: bit 7 is kept; V is cleared. -/
def sraOp (a : Byte) : Byte × FlagUpdate :=
  let res := shiftInHigh a (a.getLsbD 7)
  (res, { c := some (a.getLsbD 0), z := some (zeroOf res), s := some (signOf res), v := some false })

/-- R257: C, V, D, H unchanged. -/
def swapOp (a : Byte) : Byte × FlagUpdate :=
  let res := joinNibbles (loNibble a) (hiNibble a)
  (res, { z := some (zeroOf res), s := some (signOf res) })

/-! ## Condition codes -/

/-- `cond(cc)` over a FLAGS byte (30_encoding.md R110). -/
def condHolds (cc : Cond) (f : Byte) : Bool :=
  match cc with
  | .never => false
  | .lt => flagS f ^^ flagV f
  | .le => flagZ f || (flagS f ^^ flagV f)
  | .ule => flagC f || flagZ f
  | .ov => flagV f
  | .mi => flagS f
  | .z => flagZ f
  | .c => flagC f
  | .always => true
  | .ge => !(flagS f ^^ flagV f)
  | .gt => !(flagZ f || (flagS f ^^ flagV f))
  | .ugt => !flagC f && !flagZ f
  | .nov => !flagV f
  | .pl => !flagS f
  | .nz => !flagZ f
  | .nc => !flagC f

end Sys2Proof.Machine
end

