-- ==== Sys2Proof/Machine/Operands.lean ====
section
/-! DEFINITION. The operand forms of 30_encoding.md R97 and the shapes of instruction built on them: load, two-operand
(R98), test, one-operand and word-operand. Working-register addresses are formed with the RP of the instruction's start
and every operand is read before anything is written (92_eei_decisions.md D25). -/

namespace Sys2Proof.Machine

/-- An operand form that resolves to one register-file cell (R97). -/
inductive Loc where
  /-- working register -/
  | r (n : Nibble)
  /-- register, or working register through the E escape -/
  | R (b : Byte)
  /-- indirect working register -/
  | Ir (n : Nibble)
  /-- indirect register, or indirect working register -/
  | IR (b : Byte)
  /-- indexed: base address and index working register -/
  | X (base : Byte) (n : Nibble)
deriving DecidableEq, Repr

/-- The absolute address of the cell an operand names (R97). -/
def Loc.address (l : Loc) (s : State) : Byte :=
  match l with
  | .r n => s.wr n
  | .R b => s.reg8 b
  | .Ir n => s.reg (s.wr n)
  | .IR b => s.reg (s.reg8 b)
  | .X base n => base + s.reg (s.wr n)

/-- Why the pointer or index register of an operand may not be used (10_state.md R24, 20_memory.md R69). -/
def Loc.pointerStop (l : Loc) (s : State) : Option Refusal :=
  match l with
  | .r _ => none
  | .R _ => none
  | .Ir n => s.useStop (s.wr n)
  | .IR b => s.useStop (s.reg8 b)
  | .X _ n => s.useStop (s.wr n)

/-- A source operand: a cell or an immediate (R97: IM). -/
inductive Src where
  | loc (l : Loc)
  | im (v : Byte)
deriving DecidableEq, Repr

/-- The source value; it is the instruction's first read of its operands. -/
def Src.value (src : Src) (s : State) : Byte :=
  match src with
  | .loc l => s.plain 0 (l.address s)
  | .im v => v

/-- Why a source may not be read: its pointer may not be used, or its cell is absent. -/
def Src.stops (src : Src) (s : State) : List (Option Refusal) :=
  match src with
  | .loc l => [l.pointerStop s, s.accessStop (l.address s)]
  | .im _ => []

/-- Refused because FLAGS is the destination of a flag-affecting instruction (10_state.md R40). -/
def flagsStop (d : Byte) : Option Refusal := stopIf (d == flagsAddr) .flagsDestination

/-- `dst <- src`, no flag (40_load.md R140). -/
def load (dst : Loc) (src : Src) (length : Word) (s : State) : Result :=
  guarded (src.stops s ++ [dst.pointerStop s, s.accessStop (dst.address s)]) <|
    .next ((s.put (dst.address s) (src.value s)).advance length)

/-- Why the destination of a read-modify-write, flag-affecting instruction is refused. -/
def Loc.modifyStops (dst : Loc) (s : State) : List (Option Refusal) :=
  [dst.pointerStop s, s.useStop (dst.address s), flagsStop (dst.address s)]

/-- The two-operand group, writing its destination (R98). -/
def combine (f : Byte → Byte → Byte × FlagUpdate) (dst : Loc) (src : Src) (length : Word) (s : State) :
    Result :=
  guarded (src.stops s ++ dst.modifyStops s) <|
    let d := dst.address s
    let r := f (s.reg d) (src.value s)
    .next (((s.setReg d r.1).updateFlags r.2).advance length)

/-- The two-operand group, only testing its destination operand (R98: CP, TM, TCM). -/
def testOperands (f : Byte → Byte → FlagUpdate) (dst : Loc) (src : Src) (length : Word) (s : State) :
    Result :=
  guarded (src.stops s ++ [dst.pointerStop s, s.accessStop (dst.address s)]) <|
    .next ((s.updateFlags (f (s.plain 1 (dst.address s)) (src.value s))).advance length)

/-- A one-operand instruction that rewrites its operand and affects flags (41_arithmetic.md R170,
46_rotate_shift.md R250). -/
def modify (f : Byte → Byte × FlagUpdate) (dst : Loc) (length : Word) (s : State) :
    Result :=
  guarded (dst.modifyStops s) <|
    let d := dst.address s
    let r := f (s.reg d)
    .next (((s.setReg d r.1).updateFlags r.2).advance length)

/-- Why the pair a word instruction rewrites is refused: a pointer, an odd address, a half, or FLAGS in it
(41_arithmetic.md R176). -/
def Loc.modifyPairStops (dst : Loc) (s : State) : List (Option Refusal) :=
  [dst.pointerStop s, s.pairStop (dst.address s), flagsStop (dst.address s), flagsStop (dst.address s + 1)]

/-- INCW and DECW: the pair at the operand's address (R97: RR, and IR of DECW and INCW). -/
def modifyPair (f : Word → Word × FlagUpdate) (dst : Loc) (length : Word) (s : State) :
    Result :=
  guarded (dst.modifyPairStops s) <|
    let d := dst.address s
    let r := f (s.pair d)
    .next (((s.setPair d r.1).updateFlags r.2).advance length)

end Sys2Proof.Machine
end

