-- ==== Sys2Proof/Machine/Arithmetic.lean ====
section
/-! DEFINITION. The arithmetic instructions (41_arithmetic.md): ADC, ADD, CP, DA, DEC, DECW, INC, INCW, SBC, SUB. -/

namespace Sys2Proof.Machine

/-! ## ADD, ADC, SUB, SBC, CP -/

/-- ADD r,r (02H). R172. -/
def execAdd_r_r (dst src : Nibble) (s : State) : Result :=
  combine (addOp false) (.r dst) (.loc (.r src)) 2 s

/-- ADD r,Ir (03H). R172. -/
def execAdd_r_Ir (dst src : Nibble) (s : State) : Result :=
  combine (addOp false) (.r dst) (.loc (.Ir src)) 2 s

/-- ADD R,R (04H). R172. -/
def execAdd_R_R (dst src : Byte) (s : State) : Result :=
  combine (addOp false) (.R dst) (.loc (.R src)) 3 s

/-- ADD R,IR (05H). R172. -/
def execAdd_R_IR (dst src : Byte) (s : State) : Result :=
  combine (addOp false) (.R dst) (.loc (.IR src)) 3 s

/-- ADD R,IM (06H). R172. -/
def execAdd_R_IM (dst imm : Byte) (s : State) : Result :=
  combine (addOp false) (.R dst) (.im imm) 3 s

/-- ADD IR,IM (07H). R172. -/
def execAdd_IR_IM (dst imm : Byte) (s : State) : Result :=
  combine (addOp false) (.IR dst) (.im imm) 3 s

/-- ADC r,r (12H). R171. -/
def execAdc_r_r (dst src : Nibble) (s : State) : Result :=
  combine (addOp (flagC s.flags)) (.r dst) (.loc (.r src)) 2 s

/-- ADC r,Ir (13H). R171. -/
def execAdc_r_Ir (dst src : Nibble) (s : State) : Result :=
  combine (addOp (flagC s.flags)) (.r dst) (.loc (.Ir src)) 2 s

/-- ADC R,R (14H). R171. -/
def execAdc_R_R (dst src : Byte) (s : State) : Result :=
  combine (addOp (flagC s.flags)) (.R dst) (.loc (.R src)) 3 s

/-- ADC R,IR (15H). R171. -/
def execAdc_R_IR (dst src : Byte) (s : State) : Result :=
  combine (addOp (flagC s.flags)) (.R dst) (.loc (.IR src)) 3 s

/-- ADC R,IM (16H). R171. -/
def execAdc_R_IM (dst imm : Byte) (s : State) : Result :=
  combine (addOp (flagC s.flags)) (.R dst) (.im imm) 3 s

/-- ADC IR,IM (17H). R171. -/
def execAdc_IR_IM (dst imm : Byte) (s : State) : Result :=
  combine (addOp (flagC s.flags)) (.IR dst) (.im imm) 3 s

/-- SUB r,r (22H). R180. -/
def execSub_r_r (dst src : Nibble) (s : State) : Result :=
  combine (subOp false) (.r dst) (.loc (.r src)) 2 s

/-- SUB r,Ir (23H). R180. -/
def execSub_r_Ir (dst src : Nibble) (s : State) : Result :=
  combine (subOp false) (.r dst) (.loc (.Ir src)) 2 s

/-- SUB R,R (24H). R180. -/
def execSub_R_R (dst src : Byte) (s : State) : Result :=
  combine (subOp false) (.R dst) (.loc (.R src)) 3 s

/-- SUB R,IR (25H). R180. -/
def execSub_R_IR (dst src : Byte) (s : State) : Result :=
  combine (subOp false) (.R dst) (.loc (.IR src)) 3 s

/-- SUB R,IM (26H). R180. -/
def execSub_R_IM (dst imm : Byte) (s : State) : Result :=
  combine (subOp false) (.R dst) (.im imm) 3 s

/-- SUB IR,IM (27H). R180. -/
def execSub_IR_IM (dst imm : Byte) (s : State) : Result :=
  combine (subOp false) (.IR dst) (.im imm) 3 s

/-- SBC r,r (32H). R179. -/
def execSbc_r_r (dst src : Nibble) (s : State) : Result :=
  combine (subOp (flagC s.flags)) (.r dst) (.loc (.r src)) 2 s

/-- SBC r,Ir (33H). R179. -/
def execSbc_r_Ir (dst src : Nibble) (s : State) : Result :=
  combine (subOp (flagC s.flags)) (.r dst) (.loc (.Ir src)) 2 s

/-- SBC R,R (34H). R179. -/
def execSbc_R_R (dst src : Byte) (s : State) : Result :=
  combine (subOp (flagC s.flags)) (.R dst) (.loc (.R src)) 3 s

/-- SBC R,IR (35H). R179. -/
def execSbc_R_IR (dst src : Byte) (s : State) : Result :=
  combine (subOp (flagC s.flags)) (.R dst) (.loc (.IR src)) 3 s

/-- SBC R,IM (36H). R179. -/
def execSbc_R_IM (dst imm : Byte) (s : State) : Result :=
  combine (subOp (flagC s.flags)) (.R dst) (.im imm) 3 s

/-- SBC IR,IM (37H). R179. -/
def execSbc_IR_IM (dst imm : Byte) (s : State) : Result :=
  combine (subOp (flagC s.flags)) (.IR dst) (.im imm) 3 s

/-- CP r,r (A2H). R173. -/
def execCp_r_r (dst src : Nibble) (s : State) : Result :=
  testOperands cpFlags (.r dst) (.loc (.r src)) 2 s

/-- CP r,Ir (A3H). R173. -/
def execCp_r_Ir (dst src : Nibble) (s : State) : Result :=
  testOperands cpFlags (.r dst) (.loc (.Ir src)) 2 s

/-- CP R,R (A4H). R173. -/
def execCp_R_R (dst src : Byte) (s : State) : Result :=
  testOperands cpFlags (.R dst) (.loc (.R src)) 3 s

/-- CP R,IR (A5H). R173. -/
def execCp_R_IR (dst src : Byte) (s : State) : Result :=
  testOperands cpFlags (.R dst) (.loc (.IR src)) 3 s

/-- CP R,IM (A6H). R173. -/
def execCp_R_IM (dst imm : Byte) (s : State) : Result :=
  testOperands cpFlags (.R dst) (.im imm) 3 s

/-- CP IR,IM (A7H). R173. -/
def execCp_IR_IM (dst imm : Byte) (s : State) : Result :=
  testOperands cpFlags (.IR dst) (.im imm) 3 s

/-! ## DA, DEC, INC -/

/-- DA R (40H). R174. -/
def execDa_R (b : Byte) (s : State) : Result :=
  modify (daOp s.dev s.flags) (.R b) 2 s

/-- DA IR (41H). R174. -/
def execDa_IR (b : Byte) (s : State) : Result :=
  modify (daOp s.dev s.flags) (.IR b) 2 s

/-- DEC R (00H). R175. -/
def execDec_R (b : Byte) (s : State) : Result :=
  modify decOp (.R b) 2 s

/-- DEC IR (01H). R175. -/
def execDec_IR (b : Byte) (s : State) : Result :=
  modify decOp (.IR b) 2 s

/-- INC r (xEH). R177. -/
def execInc_r (dst : Nibble) (s : State) : Result :=
  modify incOp (.r dst) 1 s

/-- INC R (20H). R177. -/
def execInc_R (b : Byte) (s : State) : Result :=
  modify incOp (.R b) 2 s

/-- INC IR (21H). R177. -/
def execInc_IR (b : Byte) (s : State) : Result :=
  modify incOp (.IR b) 2 s

/-! ## DECW, INCW -/

/-- DECW RR (80H). R176. -/
def execDecw_RR (b : Byte) (s : State) : Result :=
  modifyPair decwOp (.R b) 2 s

/-- DECW IR (81H). R176. -/
def execDecw_IR (b : Byte) (s : State) : Result :=
  modifyPair decwOp (.IR b) 2 s

/-- INCW RR (A0H). R178. -/
def execIncw_RR (b : Byte) (s : State) : Result :=
  modifyPair incwOp (.R b) 2 s

/-- INCW IR (A1H). R178. -/
def execIncw_IR (b : Byte) (s : State) : Result :=
  modifyPair incwOp (.IR b) 2 s

end Sys2Proof.Machine
end

