-- ==== Sys2Proof/Machine/BitManipulation.lean ====
section
/-! DEFINITION. The bit manipulation instructions (44_bit_manipulation.md): TCM and TM. AND, OR and XOR used on bits are the
logical instructions themselves (R233). -/

namespace Sys2Proof.Machine

/-- TCM r,r (62H). R231. -/
def execTcm_r_r (dst src : Nibble) (s : State) : Result :=
  testOperands tcmFlags (.r dst) (.loc (.r src)) 2 s

/-- TCM r,Ir (63H). R231. -/
def execTcm_r_Ir (dst src : Nibble) (s : State) : Result :=
  testOperands tcmFlags (.r dst) (.loc (.Ir src)) 2 s

/-- TCM R,R (64H). R231. -/
def execTcm_R_R (dst src : Byte) (s : State) : Result :=
  testOperands tcmFlags (.R dst) (.loc (.R src)) 3 s

/-- TCM R,IR (65H). R231. -/
def execTcm_R_IR (dst src : Byte) (s : State) : Result :=
  testOperands tcmFlags (.R dst) (.loc (.IR src)) 3 s

/-- TCM R,IM (66H). R231. -/
def execTcm_R_IM (dst imm : Byte) (s : State) : Result :=
  testOperands tcmFlags (.R dst) (.im imm) 3 s

/-- TCM IR,IM (67H). R231. -/
def execTcm_IR_IM (dst imm : Byte) (s : State) : Result :=
  testOperands tcmFlags (.IR dst) (.im imm) 3 s

/-- TM r,r (72H). R232. -/
def execTm_r_r (dst src : Nibble) (s : State) : Result :=
  testOperands tmFlags (.r dst) (.loc (.r src)) 2 s

/-- TM r,Ir (73H). R232. -/
def execTm_r_Ir (dst src : Nibble) (s : State) : Result :=
  testOperands tmFlags (.r dst) (.loc (.Ir src)) 2 s

/-- TM R,R (74H). R232. -/
def execTm_R_R (dst src : Byte) (s : State) : Result :=
  testOperands tmFlags (.R dst) (.loc (.R src)) 3 s

/-- TM R,IR (75H). R232. -/
def execTm_R_IR (dst src : Byte) (s : State) : Result :=
  testOperands tmFlags (.R dst) (.loc (.IR src)) 3 s

/-- TM R,IM (76H). R232. -/
def execTm_R_IM (dst imm : Byte) (s : State) : Result :=
  testOperands tmFlags (.R dst) (.im imm) 3 s

/-- TM IR,IM (77H). R232. -/
def execTm_IR_IM (dst imm : Byte) (s : State) : Result :=
  testOperands tmFlags (.IR dst) (.im imm) 3 s

end Sys2Proof.Machine
end

