-- ==== Sys2Proof/Machine/BlockTransfer.lean ====
section
/-! DEFINITION. The block transfer instruction LDCI (45_block_transfer.md), in its two directions. -/

namespace Sys2Proof.Machine

/-- Why LDCI is refused (R240): a pointer may not be used, the transferred cell is absent, or the transferred cell
or the working register overlaps the pointers. `r` is the working register's address, `q` the pair's. -/
def ldciStops (s : State) (r q : Byte) : List (Option Refusal) :=
  let a := s.reg r
  [s.useStop r, s.pairStop q, s.accessStop a,
    stopIf (a == r || a == q || a == q + 1 || r == q || r == q + 1) .ldciOverlap]

/-- LDCI Ir,Irr (C3H). R241. -/
def execLdci_Ir_Irr (n p : Nibble) (s : State) : Result :=
  let r := s.wr n
  let q := s.wr p
  let a8 := s.reg r
  let a16 := s.pair q
  guarded (ldciStops s r q) <|
    s.withProgByte a16 fun v => .next ((((s.put a8 v).setReg r (a8 + 1)).setPair q (a16 + 1)).advance 2)

/-- LDCI Irr,Ir (D3H). R242. The two numbers by `LDC_STORE_NIBBLES`, the store by `PROG_WRITE`; both pointers are incremented either way. -/
def execLdci_Irr_Ir (hi lo : Nibble) (s : State) : Result :=
  let q := s.wr (pairNibble s.dev.ldcNibbles hi lo)
  let r := s.wr (sourceNibble s.dev.ldcNibbles hi lo)
  let a8 := s.reg r
  let a16 := s.pair q
  guarded (ldciStops s r q) <|
    s.storeProgByte a16 (s.plain 0 a8) fun t => ((t.setPair q (a16 + 1)).setReg r (a8 + 1)).advance 2

end Sys2Proof.Machine
end

