-- ==== Sys2Proof/Machine/CpuControl.lean ====
section
/-! DEFINITION. The CPU control instructions (47_cpu_control.md): CCF, DI, EI, HALT, NOP, RCF, SCF, SRP, STOP, WDT. -/

namespace Sys2Proof.Machine

/-- CCF (EFH). R271. -/
def execCcf (s : State) : Result :=
  .next ((s.updateFlags { c := some (!flagC s.flags) }).advance 1)

/-- DI (8FH). R272. -/
def execDi (s : State) : Result :=
  .next ((s.setImr (s.imr &&& 0x7F#8)).advance 1)

/-- EI (9FH). R273. -/
def execEi (s : State) : Result :=
  .next ((s.setImr (s.imr ||| 0x80#8)).advance 1)

/-- HALT (7FH). R274. -/
def execHalt (s : State) : Result :=
  .next { s.advance 1 with mode := .halted }

/-- NOP (FFH). R275. -/
def execNop (s : State) : Result :=
  .next (s.advance 1)

/-- RCF (CFH). R276. -/
def execRcf (s : State) : Result :=
  .next ((s.updateFlags { c := some false }).advance 1)

/-- SCF (DFH). R277. -/
def execScf (s : State) : Result :=
  .next ((s.updateFlags { c := some true }).advance 1)

/-- SRP IM (31H). R278. All eight bits; the new RP governs the next instruction. -/
def execSrp_IM (imm : Byte) (s : State) : Result :=
  .next ((s.setRp imm).advance 2)

/-- STOP (6FH). R279. Refused while WDTF or SMRF is still set. -/
def execStop (s : State) : Result :=
  guarded [stopIf (flagSmr s.flags || flagWdt s.flags) .staleStop] <|
    .next { (s.setFlags (s.flags ||| 0x01#8)).advance 1 with mode := .stopped }

/-- WDT (5FH). R280. An event to the environment; WDTF is not cleared. -/
def execWdt (s : State) : Result :=
  .next { (s.emit .wdtRefresh).advance 1 with sinceRefresh := 0 }

end Sys2Proof.Machine
end

