-- ==== Sys2Proof/Machine/Load.lean ====
section
/-! DEFINITION. The load instructions (40_load.md): CLR, LD, LDC, POP, PUSH. None affects a flag, and FLAGS may be a
destination (R140). -/

namespace Sys2Proof.Machine

/-! ## CLR and LD -/

/-- CLR R (B0H). R141. -/
def execClr_R (b : Byte) (s : State) : Result :=
  load (.R b) (.im 0x00#8) 2 s

/-- CLR IR (B1H). R141. -/
def execClr_IR (b : Byte) (s : State) : Result :=
  load (.IR b) (.im 0x00#8) 2 s

/-- LD r,IM (xCH). R142. -/
def execLd_r_IM (dst : Nibble) (imm : Byte) (s : State) : Result :=
  load (.r dst) (.im imm) 2 s

/-- LD r,R (x8H). R143. -/
def execLd_r_R (dst : Nibble) (src : Byte) (s : State) : Result :=
  load (.r dst) (.loc (.R src)) 2 s

/-- LD R,r (x9H). R144. -/
def execLd_R_r (dst : Byte) (src : Nibble) (s : State) : Result :=
  load (.R dst) (.loc (.r src)) 2 s

/-- LD r,X (C7H). R145. -/
def execLd_r_X (dst x : Nibble) (base : Byte) (s : State) : Result :=
  load (.r dst) (.loc (.X base x)) 3 s

/-- LD X,r (D7H). R146. -/
def execLd_X_r (src x : Nibble) (base : Byte) (s : State) : Result :=
  load (.X base x) (.loc (.r src)) 3 s

/-- LD r,Ir (E3H). R147. -/
def execLd_r_Ir (dst src : Nibble) (s : State) : Result :=
  load (.r dst) (.loc (.Ir src)) 2 s

/-- LD Ir,r (F3H). R148. -/
def execLd_Ir_r (dst src : Nibble) (s : State) : Result :=
  load (.Ir dst) (.loc (.r src)) 2 s

/-- LD R,R (E4H). R149. -/
def execLd_R_R (dst src : Byte) (s : State) : Result :=
  load (.R dst) (.loc (.R src)) 3 s

/-- LD R,IR (E5H). R150. -/
def execLd_R_IR (dst src : Byte) (s : State) : Result :=
  load (.R dst) (.loc (.IR src)) 3 s

/-- LD R,IM (E6H). R151. -/
def execLd_R_IM (dst imm : Byte) (s : State) : Result :=
  load (.R dst) (.im imm) 3 s

/-- LD IR,IM (E7H). R152. -/
def execLd_IR_IM (dst imm : Byte) (s : State) : Result :=
  load (.IR dst) (.im imm) 3 s

/-- LD IR,R (F5H). R153. -/
def execLd_IR_R (dst src : Byte) (s : State) : Result :=
  load (.IR dst) (.loc (.R src)) 3 s

/-! ## LDC -/

/-- LDC r,Irr (C2H). R155. -/
def execLdc_r_Irr (dst p : Nibble) (s : State) : Result :=
  guarded [s.pairStop (s.wr p), s.accessStop (s.wr dst)] <|
    s.withProgByte (s.pair (s.wr p)) fun v => .next ((s.put (s.wr dst) v).advance 2)

/-- LDC Irr,r (D2H). R156. The two numbers by `LDC_STORE_NIBBLES`, the store by `PROG_WRITE`. -/
def execLdc_Irr_r (hi lo : Nibble) (s : State) : Result :=
  let p := s.wr (pairNibble s.dev.ldcNibbles hi lo)
  let src := s.wr (sourceNibble s.dev.ldcNibbles hi lo)
  guarded [s.pairStop p, s.accessStop src] <|
    s.storeProgByte (s.pair p) (s.plain 0 src) fun t => t.advance 2

/-! ## POP and PUSH -/

/-- `dst <- @SP; SP <- SP + 1` (R157). -/
def popTo (dst : Loc) (s : State) : Result :=
  let d := dst.address s
  guarded [s.stackStop s.sp, dst.pointerStop s, s.accessStop d, stopIf (d == s.dev.spAddr) .spOperand] <|
    .next (((s.put d (s.reg s.sp)).setSp (s.sp + 1)).advance 2)

/-- `SP <- SP - 1; @SP <- src`, the operand read before SP is decremented (R158). -/
def pushFrom (src : Loc) (s : State) : Result :=
  let a := src.address s
  guarded [src.pointerStop s, s.accessStop a, stopIf (a == s.dev.spAddr) .spOperand, s.stackStop (s.sp - 1)] <|
    .next (((s.setSp (s.sp - 1)).setReg (s.sp - 1) (s.plain 0 a)).advance 2)

/-- POP R (50H). R157. -/
def execPop_R (b : Byte) (s : State) : Result :=
  popTo (.R b) s

/-- POP IR (51H). R157. -/
def execPop_IR (b : Byte) (s : State) : Result :=
  popTo (.IR b) s

/-- PUSH R (70H). R158. -/
def execPush_R (b : Byte) (s : State) : Result :=
  pushFrom (.R b) s

/-- PUSH IR (71H). R158. -/
def execPush_IR (b : Byte) (s : State) : Result :=
  pushFrom (.IR b) s

end Sys2Proof.Machine
end

