-- ==== Sys2Proof/Machine/Logical.lean ====
section
/-! DEFINITION. The logical instructions (42_logical.md): AND, COM, OR, XOR. -/

namespace Sys2Proof.Machine

/-- AND r,r (52H). R201. -/
def execAnd_r_r (dst src : Nibble) (s : State) : Result :=
  combine andOp (.r dst) (.loc (.r src)) 2 s

/-- AND r,Ir (53H). R201. -/
def execAnd_r_Ir (dst src : Nibble) (s : State) : Result :=
  combine andOp (.r dst) (.loc (.Ir src)) 2 s

/-- AND R,R (54H). R201. -/
def execAnd_R_R (dst src : Byte) (s : State) : Result :=
  combine andOp (.R dst) (.loc (.R src)) 3 s

/-- AND R,IR (55H). R201. -/
def execAnd_R_IR (dst src : Byte) (s : State) : Result :=
  combine andOp (.R dst) (.loc (.IR src)) 3 s

/-- AND R,IM (56H). R201. -/
def execAnd_R_IM (dst imm : Byte) (s : State) : Result :=
  combine andOp (.R dst) (.im imm) 3 s

/-- AND IR,IM (57H). R201. -/
def execAnd_IR_IM (dst imm : Byte) (s : State) : Result :=
  combine andOp (.IR dst) (.im imm) 3 s

/-- OR r,r (42H). R203. -/
def execOr_r_r (dst src : Nibble) (s : State) : Result :=
  combine orOp (.r dst) (.loc (.r src)) 2 s

/-- OR r,Ir (43H). R203. -/
def execOr_r_Ir (dst src : Nibble) (s : State) : Result :=
  combine orOp (.r dst) (.loc (.Ir src)) 2 s

/-- OR R,R (44H). R203. -/
def execOr_R_R (dst src : Byte) (s : State) : Result :=
  combine orOp (.R dst) (.loc (.R src)) 3 s

/-- OR R,IR (45H). R203. -/
def execOr_R_IR (dst src : Byte) (s : State) : Result :=
  combine orOp (.R dst) (.loc (.IR src)) 3 s

/-- OR R,IM (46H). R203. -/
def execOr_R_IM (dst imm : Byte) (s : State) : Result :=
  combine orOp (.R dst) (.im imm) 3 s

/-- OR IR,IM (47H). R203. -/
def execOr_IR_IM (dst imm : Byte) (s : State) : Result :=
  combine orOp (.IR dst) (.im imm) 3 s

/-- XOR r,r (B2H). R204. -/
def execXor_r_r (dst src : Nibble) (s : State) : Result :=
  combine xorOp (.r dst) (.loc (.r src)) 2 s

/-- XOR r,Ir (B3H). R204. -/
def execXor_r_Ir (dst src : Nibble) (s : State) : Result :=
  combine xorOp (.r dst) (.loc (.Ir src)) 2 s

/-- XOR R,R (B4H). R204. -/
def execXor_R_R (dst src : Byte) (s : State) : Result :=
  combine xorOp (.R dst) (.loc (.R src)) 3 s

/-- XOR R,IR (B5H). R204. -/
def execXor_R_IR (dst src : Byte) (s : State) : Result :=
  combine xorOp (.R dst) (.loc (.IR src)) 3 s

/-- XOR R,IM (B6H). R204. -/
def execXor_R_IM (dst imm : Byte) (s : State) : Result :=
  combine xorOp (.R dst) (.im imm) 3 s

/-- XOR IR,IM (B7H). R204. -/
def execXor_IR_IM (dst imm : Byte) (s : State) : Result :=
  combine xorOp (.IR dst) (.im imm) 3 s

/-- COM R (60H). R202. -/
def execCom_R (b : Byte) (s : State) : Result :=
  modify comOp (.R b) 2 s

/-- COM IR (61H). R202. -/
def execCom_IR (b : Byte) (s : State) : Result :=
  modify comOp (.IR b) 2 s

end Sys2Proof.Machine
end

