-- ==== Sys2Proof/Machine/ProgramControl.lean ====
section
/-! DEFINITION. The program control instructions (43_program_control.md): CALL, DJNZ, IRET, JP, JR, RET. -/

namespace Sys2Proof.Machine

/-- `if cond then PC <- target` (R215, R217). -/
def jumpIf (cc : Cond) (target length : Word) (s : State) : Result :=
  .next (s.goto (if condHolds cc s.flags then target else s.pcNext length))

/-- CALL DA (D6H). R211. -/
def execCall_DA (target : Word) (s : State) : Result :=
  guarded s.pushWordStops <|
    .next ((s.pushWord (s.pcNext 3)).goto target)

/-- CALL IRR (D4H). R212. The pair is read before the return address is stored. -/
def execCall_IRR (b : Byte) (s : State) : Result :=
  guarded (s.pairStop (s.reg8 b) :: s.pushWordStops) <|
    .next ((s.pushWord (s.pcNext 2)).goto (s.pair (s.reg8 b)))

/-- DJNZ r,RA (xAH). R213. No flag changes. -/
def execDjnz_r_RA (n : Nibble) (offset : Byte) (s : State) : Result :=
  let d := s.wr n
  let res := s.reg d - 1
  guarded [s.useStop d] <|
    .next ((s.setReg d res).goto (if res = 0#8 then s.pcNext 2 else s.relative 2 offset))

/-- IRET (BFH). R214. -/
def execIret (s : State) : Result :=
  guarded s.interruptReturnStops <| .next s.interruptReturn

/-- JP cc,DA (xDH). R215. -/
def execJp_cc_DA (cc : Cond) (target : Word) (s : State) : Result :=
  jumpIf cc target 3 s

/-- JP IRR (30H). R216. -/
def execJp_IRR (b : Byte) (s : State) : Result :=
  guarded [s.pairStop (s.reg8 b)] <| .next (s.goto (s.pair (s.reg8 b)))

/-- JR cc,RA (xBH). R217. -/
def execJr_cc_RA (cc : Cond) (offset : Byte) (s : State) : Result :=
  jumpIf cc (s.relative 2 offset) 2 s

/-- RET (AFH). R218. -/
def execRet (s : State) : Result :=
  guarded [s.stackStop s.sp, s.stackStop (s.sp + 1)] <|
    .next ((s.setSp (s.sp + 2)).goto s.topWord)

end Sys2Proof.Machine
end

