-- ==== Sys2Proof/Decode.lean ====
section
/-! DEFINITION. The decoder, total on any bytes, and the encoder, both written from the op code map (30_encoding.md
R91, R92, R100, R120). The first byte alone selects the instruction and its length; the columns of the map are the
functions below. -/

namespace Sys2Proof

/-- Why a byte string is no instruction: it ends too early. Every first byte selects a row of the map (R101). -/
inductive DecodeError where
  /-- there is no first byte -/
  | noOpcode
  /-- an operand byte the length of R92 needs is missing -/
  | missingOperand
deriving DecidableEq, Repr

/-- The condition code field (R110). -/
def Cond.ofBits (n : Nibble) : Cond :=
  match n.toNat with
  | 0x0 => .never
  | 0x1 => .lt
  | 0x2 => .le
  | 0x3 => .ule
  | 0x4 => .ov
  | 0x5 => .mi
  | 0x6 => .z
  | 0x7 => .c
  | 0x8 => .always
  | 0x9 => .ge
  | 0xA => .gt
  | 0xB => .ugt
  | 0xC => .nov
  | 0xD => .pl
  | 0xE => .nz
  | _ => .nc

/-- The condition code field of a condition (R110). -/
def Cond.bits : Cond → Nibble
  | .never => 0x0#4
  | .lt => 0x1#4
  | .le => 0x2#4
  | .ule => 0x3#4
  | .ov => 0x4#4
  | .mi => 0x5#4
  | .z => 0x6#4
  | .c => 0x7#4
  | .always => 0x8#4
  | .ge => 0x9#4
  | .gt => 0xA#4
  | .ugt => 0xB#4
  | .nov => 0xC#4
  | .pl => 0xD#4
  | .nz => 0xE#4
  | .nc => 0xF#4

/-- The 26 reserved op codes, the blank cells of the map (R105). -/
def reservedOpcodes : List Byte :=
  [0x0F#8, 0x1F#8, 0x2F#8, 0x3F#8, 0x4F#8, 0x82#8, 0x83#8, 0x84#8, 0x85#8, 0x86#8, 0x87#8, 0x92#8, 0x93#8, 0x94#8,
    0x95#8, 0x96#8, 0x97#8, 0xC4#8, 0xC5#8, 0xC6#8, 0xD5#8, 0xE2#8, 0xF2#8, 0xF4#8, 0xF6#8, 0xF7#8]

/-- The length in bytes of the instructions of a column, by the lower op code nibble (R92). -/
def columnLength (lo : Nibble) : Nat :=
  match lo.toNat with
  | 0x0 | 0x1 | 0x2 | 0x3 => 2
  | 0x4 | 0x5 | 0x6 | 0x7 => 3
  | 0x8 | 0x9 | 0xA | 0xB | 0xC => 2
  | 0xD => 3
  | _ => 1

/-- How many bytes are fetched after seeing the first (R92, R120): its column's length, but two for CALL IRR1 (D4H)
and one for a reserved op code, which has no operand to read (log 37). -/
def opLength (b1 : Byte) : Nat :=
  if b1 = 0xD4#8 then 2
  else if reservedOpcodes.contains b1 then 1
  else columnLength (loNibble b1)

/-- Column 0 of the map: the row selects the instruction (R100). -/
def column0 (hi : Nibble) (b2 : Byte) : Instr :=
  match hi.toNat with
  | 0x0 => .dec_R b2
  | 0x1 => .rlc_R b2
  | 0x2 => .inc_R b2
  | 0x3 => .jp_IRR b2
  | 0x4 => .da_R b2
  | 0x5 => .pop_R b2
  | 0x6 => .com_R b2
  | 0x7 => .push_R b2
  | 0x8 => .decw_RR b2
  | 0x9 => .rl_R b2
  | 0xA => .incw_RR b2
  | 0xB => .clr_R b2
  | 0xC => .rrc_R b2
  | 0xD => .sra_R b2
  | 0xE => .rr_R b2
  | _ => .swap_R b2

/-- Column 1 of the map: the row selects the instruction (R100). -/
def column1 (hi : Nibble) (b2 : Byte) : Instr :=
  match hi.toNat with
  | 0x0 => .dec_IR b2
  | 0x1 => .rlc_IR b2
  | 0x2 => .inc_IR b2
  | 0x3 => .srp_IM b2
  | 0x4 => .da_IR b2
  | 0x5 => .pop_IR b2
  | 0x6 => .com_IR b2
  | 0x7 => .push_IR b2
  | 0x8 => .decw_IR b2
  | 0x9 => .rl_IR b2
  | 0xA => .incw_IR b2
  | 0xB => .clr_IR b2
  | 0xC => .rrc_IR b2
  | 0xD => .sra_IR b2
  | 0xE => .rr_IR b2
  | _ => .swap_IR b2

/-- Column 2 of the map: the row selects the instruction (R100). -/
def column2 (hi : Nibble) (b2 : Byte) : Instr :=
  match hi.toNat with
  | 0x0 => .add_r_r (hiNibble b2) (loNibble b2)
  | 0x1 => .adc_r_r (hiNibble b2) (loNibble b2)
  | 0x2 => .sub_r_r (hiNibble b2) (loNibble b2)
  | 0x3 => .sbc_r_r (hiNibble b2) (loNibble b2)
  | 0x4 => .or_r_r (hiNibble b2) (loNibble b2)
  | 0x5 => .and_r_r (hiNibble b2) (loNibble b2)
  | 0x6 => .tcm_r_r (hiNibble b2) (loNibble b2)
  | 0x7 => .tm_r_r (hiNibble b2) (loNibble b2)
  | 0x8 => .reserved_82
  | 0x9 => .reserved_92
  | 0xA => .cp_r_r (hiNibble b2) (loNibble b2)
  | 0xB => .xor_r_r (hiNibble b2) (loNibble b2)
  | 0xC => .ldc_r_Irr (hiNibble b2) (loNibble b2)
  | 0xD => .ldc_Irr_r (hiNibble b2) (loNibble b2)
  | 0xE => .reserved_E2
  | _ => .reserved_F2

/-- Column 3 of the map: the row selects the instruction (R100). -/
def column3 (hi : Nibble) (b2 : Byte) : Instr :=
  match hi.toNat with
  | 0x0 => .add_r_Ir (hiNibble b2) (loNibble b2)
  | 0x1 => .adc_r_Ir (hiNibble b2) (loNibble b2)
  | 0x2 => .sub_r_Ir (hiNibble b2) (loNibble b2)
  | 0x3 => .sbc_r_Ir (hiNibble b2) (loNibble b2)
  | 0x4 => .or_r_Ir (hiNibble b2) (loNibble b2)
  | 0x5 => .and_r_Ir (hiNibble b2) (loNibble b2)
  | 0x6 => .tcm_r_Ir (hiNibble b2) (loNibble b2)
  | 0x7 => .tm_r_Ir (hiNibble b2) (loNibble b2)
  | 0x8 => .reserved_83
  | 0x9 => .reserved_93
  | 0xA => .cp_r_Ir (hiNibble b2) (loNibble b2)
  | 0xB => .xor_r_Ir (hiNibble b2) (loNibble b2)
  | 0xC => .ldci_Ir_Irr (hiNibble b2) (loNibble b2)
  | 0xD => .ldci_Irr_Ir (hiNibble b2) (loNibble b2)
  | 0xE => .ld_r_Ir (hiNibble b2) (loNibble b2)
  | _ => .ld_Ir_r (hiNibble b2) (loNibble b2)

/-- Column 4 of the map: the row selects the instruction (R100). -/
def column4 (hi : Nibble) (b2 b3 : Byte) : Instr :=
  match hi.toNat with
  | 0x0 => .add_R_R b3 b2
  | 0x1 => .adc_R_R b3 b2
  | 0x2 => .sub_R_R b3 b2
  | 0x3 => .sbc_R_R b3 b2
  | 0x4 => .or_R_R b3 b2
  | 0x5 => .and_R_R b3 b2
  | 0x6 => .tcm_R_R b3 b2
  | 0x7 => .tm_R_R b3 b2
  | 0x8 => .reserved_84
  | 0x9 => .reserved_94
  | 0xA => .cp_R_R b3 b2
  | 0xB => .xor_R_R b3 b2
  | 0xC => .reserved_C4
  | 0xD => .call_IRR b2
  | 0xE => .ld_R_R b3 b2
  | _ => .reserved_F4

/-- Column 5 of the map: the row selects the instruction (R100). -/
def column5 (hi : Nibble) (b2 b3 : Byte) : Instr :=
  match hi.toNat with
  | 0x0 => .add_R_IR b3 b2
  | 0x1 => .adc_R_IR b3 b2
  | 0x2 => .sub_R_IR b3 b2
  | 0x3 => .sbc_R_IR b3 b2
  | 0x4 => .or_R_IR b3 b2
  | 0x5 => .and_R_IR b3 b2
  | 0x6 => .tcm_R_IR b3 b2
  | 0x7 => .tm_R_IR b3 b2
  | 0x8 => .reserved_85
  | 0x9 => .reserved_95
  | 0xA => .cp_R_IR b3 b2
  | 0xB => .xor_R_IR b3 b2
  | 0xC => .reserved_C5
  | 0xD => .reserved_D5
  | 0xE => .ld_R_IR b3 b2
  | _ => .ld_IR_R b3 b2

/-- Column 6 of the map: the row selects the instruction (R100). -/
def column6 (hi : Nibble) (b2 b3 : Byte) : Instr :=
  match hi.toNat with
  | 0x0 => .add_R_IM b2 b3
  | 0x1 => .adc_R_IM b2 b3
  | 0x2 => .sub_R_IM b2 b3
  | 0x3 => .sbc_R_IM b2 b3
  | 0x4 => .or_R_IM b2 b3
  | 0x5 => .and_R_IM b2 b3
  | 0x6 => .tcm_R_IM b2 b3
  | 0x7 => .tm_R_IM b2 b3
  | 0x8 => .reserved_86
  | 0x9 => .reserved_96
  | 0xA => .cp_R_IM b2 b3
  | 0xB => .xor_R_IM b2 b3
  | 0xC => .reserved_C6
  | 0xD => .call_DA (joinBytes b2 b3)
  | 0xE => .ld_R_IM b2 b3
  | _ => .reserved_F6

/-- Column 7 of the map: the row selects the instruction (R100). -/
def column7 (hi : Nibble) (b2 b3 : Byte) : Instr :=
  match hi.toNat with
  | 0x0 => .add_IR_IM b2 b3
  | 0x1 => .adc_IR_IM b2 b3
  | 0x2 => .sub_IR_IM b2 b3
  | 0x3 => .sbc_IR_IM b2 b3
  | 0x4 => .or_IR_IM b2 b3
  | 0x5 => .and_IR_IM b2 b3
  | 0x6 => .tcm_IR_IM b2 b3
  | 0x7 => .tm_IR_IM b2 b3
  | 0x8 => .reserved_87
  | 0x9 => .reserved_97
  | 0xA => .cp_IR_IM b2 b3
  | 0xB => .xor_IR_IM b2 b3
  | 0xC => .ld_r_X (hiNibble b2) (loNibble b2) b3
  | 0xD => .ld_X_r (hiNibble b2) (loNibble b2) b3
  | 0xE => .ld_IR_IM b2 b3
  | _ => .reserved_F7

/-- Column F of the map: the row selects the instruction (R100). -/
def columnF (hi : Nibble) : Instr :=
  match hi.toNat with
  | 0x0 => .reserved_0F
  | 0x1 => .reserved_1F
  | 0x2 => .reserved_2F
  | 0x3 => .reserved_3F
  | 0x4 => .reserved_4F
  | 0x5 => .wdt
  | 0x6 => .stop
  | 0x7 => .halt
  | 0x8 => .di
  | 0x9 => .ei
  | 0xA => .ret
  | 0xB => .iret
  | 0xC => .rcf
  | 0xD => .scf
  | 0xE => .ccf
  | _ => .nop

/-- The instruction of a first byte and the two bytes after it; a byte beyond the length is not looked at (R120). -/
def decodeBytes (b1 b2 b3 : Byte) : Instr :=
  let hi := hiNibble b1
  match (loNibble b1).toNat with
  | 0x0 => column0 hi b2
  | 0x1 => column1 hi b2
  | 0x2 => column2 hi b2
  | 0x3 => column3 hi b2
  | 0x4 => column4 hi b2 b3
  | 0x5 => column5 hi b2 b3
  | 0x6 => column6 hi b2 b3
  | 0x7 => column7 hi b2 b3
  | 0x8 => .ld_r_R hi b2
  | 0x9 => .ld_R_r b2 hi
  | 0xA => .djnz_r_RA hi b2
  | 0xB => .jr_cc_RA (Cond.ofBits hi) b2
  | 0xC => .ld_r_IM hi b2
  | 0xD => .jp_cc_DA (Cond.ofBits hi) (joinBytes b2 b3)
  | 0xE => .inc_r hi
  | _ => columnF hi

/-- Decode the instruction at the head of a byte string and give the rest (R92, R120). -/
def decode : List Byte → Except DecodeError (Instr × List Byte)
  | [] => .error .noOpcode
  | b1 :: rest =>
    match opLength b1, rest with
    | 1, _ => .ok (decodeBytes b1 0 0, rest)
    | 2, b2 :: rest => .ok (decodeBytes b1 b2 0, rest)
    | 3, b2 :: b3 :: rest => .ok (decodeBytes b1 b2 b3, rest)
    | _, _ => .error .missingOperand

/-- The instruction as bytes, first byte first (R91, R93, R95, R100). -/
def encode : Instr → List Byte
  | .add_r_r dst src => [0x02#8, joinNibbles dst src]
  | .add_r_Ir dst src => [0x03#8, joinNibbles dst src]
  | .add_R_R dst src => [0x04#8, src, dst]
  | .add_R_IR dst src => [0x05#8, src, dst]
  | .add_R_IM dst imm => [0x06#8, dst, imm]
  | .add_IR_IM dst imm => [0x07#8, dst, imm]
  | .adc_r_r dst src => [0x12#8, joinNibbles dst src]
  | .adc_r_Ir dst src => [0x13#8, joinNibbles dst src]
  | .adc_R_R dst src => [0x14#8, src, dst]
  | .adc_R_IR dst src => [0x15#8, src, dst]
  | .adc_R_IM dst imm => [0x16#8, dst, imm]
  | .adc_IR_IM dst imm => [0x17#8, dst, imm]
  | .sub_r_r dst src => [0x22#8, joinNibbles dst src]
  | .sub_r_Ir dst src => [0x23#8, joinNibbles dst src]
  | .sub_R_R dst src => [0x24#8, src, dst]
  | .sub_R_IR dst src => [0x25#8, src, dst]
  | .sub_R_IM dst imm => [0x26#8, dst, imm]
  | .sub_IR_IM dst imm => [0x27#8, dst, imm]
  | .sbc_r_r dst src => [0x32#8, joinNibbles dst src]
  | .sbc_r_Ir dst src => [0x33#8, joinNibbles dst src]
  | .sbc_R_R dst src => [0x34#8, src, dst]
  | .sbc_R_IR dst src => [0x35#8, src, dst]
  | .sbc_R_IM dst imm => [0x36#8, dst, imm]
  | .sbc_IR_IM dst imm => [0x37#8, dst, imm]
  | .or_r_r dst src => [0x42#8, joinNibbles dst src]
  | .or_r_Ir dst src => [0x43#8, joinNibbles dst src]
  | .or_R_R dst src => [0x44#8, src, dst]
  | .or_R_IR dst src => [0x45#8, src, dst]
  | .or_R_IM dst imm => [0x46#8, dst, imm]
  | .or_IR_IM dst imm => [0x47#8, dst, imm]
  | .and_r_r dst src => [0x52#8, joinNibbles dst src]
  | .and_r_Ir dst src => [0x53#8, joinNibbles dst src]
  | .and_R_R dst src => [0x54#8, src, dst]
  | .and_R_IR dst src => [0x55#8, src, dst]
  | .and_R_IM dst imm => [0x56#8, dst, imm]
  | .and_IR_IM dst imm => [0x57#8, dst, imm]
  | .tcm_r_r dst src => [0x62#8, joinNibbles dst src]
  | .tcm_r_Ir dst src => [0x63#8, joinNibbles dst src]
  | .tcm_R_R dst src => [0x64#8, src, dst]
  | .tcm_R_IR dst src => [0x65#8, src, dst]
  | .tcm_R_IM dst imm => [0x66#8, dst, imm]
  | .tcm_IR_IM dst imm => [0x67#8, dst, imm]
  | .tm_r_r dst src => [0x72#8, joinNibbles dst src]
  | .tm_r_Ir dst src => [0x73#8, joinNibbles dst src]
  | .tm_R_R dst src => [0x74#8, src, dst]
  | .tm_R_IR dst src => [0x75#8, src, dst]
  | .tm_R_IM dst imm => [0x76#8, dst, imm]
  | .tm_IR_IM dst imm => [0x77#8, dst, imm]
  | .cp_r_r dst src => [0xA2#8, joinNibbles dst src]
  | .cp_r_Ir dst src => [0xA3#8, joinNibbles dst src]
  | .cp_R_R dst src => [0xA4#8, src, dst]
  | .cp_R_IR dst src => [0xA5#8, src, dst]
  | .cp_R_IM dst imm => [0xA6#8, dst, imm]
  | .cp_IR_IM dst imm => [0xA7#8, dst, imm]
  | .xor_r_r dst src => [0xB2#8, joinNibbles dst src]
  | .xor_r_Ir dst src => [0xB3#8, joinNibbles dst src]
  | .xor_R_R dst src => [0xB4#8, src, dst]
  | .xor_R_IR dst src => [0xB5#8, src, dst]
  | .xor_R_IM dst imm => [0xB6#8, dst, imm]
  | .xor_IR_IM dst imm => [0xB7#8, dst, imm]
  | .dec_R b => [0x00#8, b]
  | .dec_IR b => [0x01#8, b]
  | .rlc_R b => [0x10#8, b]
  | .rlc_IR b => [0x11#8, b]
  | .inc_R b => [0x20#8, b]
  | .inc_IR b => [0x21#8, b]
  | .da_R b => [0x40#8, b]
  | .da_IR b => [0x41#8, b]
  | .pop_R b => [0x50#8, b]
  | .pop_IR b => [0x51#8, b]
  | .com_R b => [0x60#8, b]
  | .com_IR b => [0x61#8, b]
  | .push_R b => [0x70#8, b]
  | .push_IR b => [0x71#8, b]
  | .decw_RR b => [0x80#8, b]
  | .decw_IR b => [0x81#8, b]
  | .rl_R b => [0x90#8, b]
  | .rl_IR b => [0x91#8, b]
  | .incw_RR b => [0xA0#8, b]
  | .incw_IR b => [0xA1#8, b]
  | .clr_R b => [0xB0#8, b]
  | .clr_IR b => [0xB1#8, b]
  | .rrc_R b => [0xC0#8, b]
  | .rrc_IR b => [0xC1#8, b]
  | .sra_R b => [0xD0#8, b]
  | .sra_IR b => [0xD1#8, b]
  | .rr_R b => [0xE0#8, b]
  | .rr_IR b => [0xE1#8, b]
  | .swap_R b => [0xF0#8, b]
  | .swap_IR b => [0xF1#8, b]
  | .jp_IRR b => [0x30#8, b]
  | .srp_IM imm => [0x31#8, imm]
  | .ldc_r_Irr dst p => [0xC2#8, joinNibbles dst p]
  | .ldci_Ir_Irr n p => [0xC3#8, joinNibbles n p]
  | .ld_r_X dst x base => [0xC7#8, joinNibbles dst x, base]
  | .ldc_Irr_r hi lo => [0xD2#8, joinNibbles hi lo]
  | .ldci_Irr_Ir hi lo => [0xD3#8, joinNibbles hi lo]
  | .call_IRR b => [0xD4#8, b]
  | .call_DA target => [0xD6#8, hiByte target, loByte target]
  | .ld_X_r src x base => [0xD7#8, joinNibbles src x, base]
  | .ld_r_Ir dst src => [0xE3#8, joinNibbles dst src]
  | .ld_R_R dst src => [0xE4#8, src, dst]
  | .ld_R_IR dst src => [0xE5#8, src, dst]
  | .ld_R_IM dst imm => [0xE6#8, dst, imm]
  | .ld_IR_IM dst imm => [0xE7#8, dst, imm]
  | .ld_Ir_r dst src => [0xF3#8, joinNibbles dst src]
  | .ld_IR_R dst src => [0xF5#8, src, dst]
  | .wdt => [0x5F#8]
  | .stop => [0x6F#8]
  | .halt => [0x7F#8]
  | .di => [0x8F#8]
  | .ei => [0x9F#8]
  | .ret => [0xAF#8]
  | .iret => [0xBF#8]
  | .rcf => [0xCF#8]
  | .scf => [0xDF#8]
  | .ccf => [0xEF#8]
  | .nop => [0xFF#8]
  | .ld_r_R dst src => [joinNibbles dst 0x8#4, src]
  | .ld_R_r dst src => [joinNibbles src 0x9#4, dst]
  | .djnz_r_RA n offset => [joinNibbles n 0xA#4, offset]
  | .jr_cc_RA cc offset => [joinNibbles cc.bits 0xB#4, offset]
  | .ld_r_IM dst imm => [joinNibbles dst 0xC#4, imm]
  | .jp_cc_DA cc target => [joinNibbles cc.bits 0xD#4, hiByte target, loByte target]
  | .inc_r dst => [joinNibbles dst 0xE#4]
  | .reserved_0F => [0x0F#8]
  | .reserved_1F => [0x1F#8]
  | .reserved_2F => [0x2F#8]
  | .reserved_3F => [0x3F#8]
  | .reserved_4F => [0x4F#8]
  | .reserved_82 => [0x82#8]
  | .reserved_83 => [0x83#8]
  | .reserved_84 => [0x84#8]
  | .reserved_85 => [0x85#8]
  | .reserved_86 => [0x86#8]
  | .reserved_87 => [0x87#8]
  | .reserved_92 => [0x92#8]
  | .reserved_93 => [0x93#8]
  | .reserved_94 => [0x94#8]
  | .reserved_95 => [0x95#8]
  | .reserved_96 => [0x96#8]
  | .reserved_97 => [0x97#8]
  | .reserved_C4 => [0xC4#8]
  | .reserved_C5 => [0xC5#8]
  | .reserved_C6 => [0xC6#8]
  | .reserved_D5 => [0xD5#8]
  | .reserved_E2 => [0xE2#8]
  | .reserved_F2 => [0xF2#8]
  | .reserved_F4 => [0xF4#8]
  | .reserved_F6 => [0xF6#8]
  | .reserved_F7 => [0xF7#8]

/-- How many bytes an instruction has (R92). -/
def Instr.length (i : Instr) : Nat := (encode i).length

/-- The `n` bytes of a number, the first its least significant: how `opcode_table.json` numbers the bits. -/
def wordBytes : Nat → Nat → List Byte
  | 0, _ => []
  | n + 1, w => BitVec.ofNat 8 w :: wordBytes n (w / 256)

/-- The bytes of an instruction given as `nbits` bits `w` of the op code table, every later bit 0, up to the longest
instruction (three bytes). -/
def tableBytes (nbits w : Nat) : List Byte := wordBytes 3 (w % 2 ^ nbits)

/-- What the decoder reads from such an instruction. -/
def decodeTableWord (nbits w : Nat) : Option Instr :=
  match decode (tableBytes nbits w) with
  | .ok (i, _) => some i
  | .error _ => none

end Sys2Proof
end

