-- ==== Sys2Proof/Machine/Reserved.lean ====
section
/-! DEFINITION. The 26 reserved op codes, which execute as NOP (30_encoding.md R105, R106). -/

namespace Sys2Proof.Machine

/-- A reserved op code executes as NOP (R105) and consumes as many bytes as `RESERVED_LEN` says (R106, log 9). -/
def reservedNop (opcode : Byte) (s : State) : Result :=
  match s.dev.reservedLen with
  | .one => .next (s.advance 1)
  | .column => .next (s.advance (BitVec.ofNat 16 (columnLength (loNibble opcode))))
  | .free => .next (s.advance (BitVec.ofNat 16 ((Config.reservedLen opcode).val + 1)))
  | .refuse => .refused .reservedOpcode

/-- (reserved) 0FH. R105. -/
def execReserved_0F (s : State) : Result :=
  reservedNop 0x0F#8 s

/-- (reserved) 1FH. R105. -/
def execReserved_1F (s : State) : Result :=
  reservedNop 0x1F#8 s

/-- (reserved) 2FH. R105. -/
def execReserved_2F (s : State) : Result :=
  reservedNop 0x2F#8 s

/-- (reserved) 3FH. R105. -/
def execReserved_3F (s : State) : Result :=
  reservedNop 0x3F#8 s

/-- (reserved) 4FH. R105. -/
def execReserved_4F (s : State) : Result :=
  reservedNop 0x4F#8 s

/-- (reserved) 82H. R105. -/
def execReserved_82 (s : State) : Result :=
  reservedNop 0x82#8 s

/-- (reserved) 83H. R105. -/
def execReserved_83 (s : State) : Result :=
  reservedNop 0x83#8 s

/-- (reserved) 84H. R105. -/
def execReserved_84 (s : State) : Result :=
  reservedNop 0x84#8 s

/-- (reserved) 85H. R105. -/
def execReserved_85 (s : State) : Result :=
  reservedNop 0x85#8 s

/-- (reserved) 86H. R105. -/
def execReserved_86 (s : State) : Result :=
  reservedNop 0x86#8 s

/-- (reserved) 87H. R105. -/
def execReserved_87 (s : State) : Result :=
  reservedNop 0x87#8 s

/-- (reserved) 92H. R105. -/
def execReserved_92 (s : State) : Result :=
  reservedNop 0x92#8 s

/-- (reserved) 93H. R105. -/
def execReserved_93 (s : State) : Result :=
  reservedNop 0x93#8 s

/-- (reserved) 94H. R105. -/
def execReserved_94 (s : State) : Result :=
  reservedNop 0x94#8 s

/-- (reserved) 95H. R105. -/
def execReserved_95 (s : State) : Result :=
  reservedNop 0x95#8 s

/-- (reserved) 96H. R105. -/
def execReserved_96 (s : State) : Result :=
  reservedNop 0x96#8 s

/-- (reserved) 97H. R105. -/
def execReserved_97 (s : State) : Result :=
  reservedNop 0x97#8 s

/-- (reserved) C4H. R105. -/
def execReserved_C4 (s : State) : Result :=
  reservedNop 0xC4#8 s

/-- (reserved) C5H. R105. -/
def execReserved_C5 (s : State) : Result :=
  reservedNop 0xC5#8 s

/-- (reserved) C6H. R105. -/
def execReserved_C6 (s : State) : Result :=
  reservedNop 0xC6#8 s

/-- (reserved) D5H. R105. -/
def execReserved_D5 (s : State) : Result :=
  reservedNop 0xD5#8 s

/-- (reserved) E2H. R105. -/
def execReserved_E2 (s : State) : Result :=
  reservedNop 0xE2#8 s

/-- (reserved) F2H. R105. -/
def execReserved_F2 (s : State) : Result :=
  reservedNop 0xF2#8 s

/-- (reserved) F4H. R105. -/
def execReserved_F4 (s : State) : Result :=
  reservedNop 0xF4#8 s

/-- (reserved) F6H. R105. -/
def execReserved_F6 (s : State) : Result :=
  reservedNop 0xF6#8 s

/-- (reserved) F7H. R105. -/
def execReserved_F7 (s : State) : Result :=
  reservedNop 0xF7#8 s

end Sys2Proof.Machine
end

