-- ==== Sys2Proof/Machine/RotateShift.lean ====
section
/-! DEFINITION. The rotate and shift instructions (46_rotate_shift.md): RL, RLC, RR, RRC, SRA, SWAP. -/

namespace Sys2Proof.Machine

/-- RL R (90H). R252. -/
def execRl_R (b : Byte) (s : State) : Result :=
  modify (rlOp s.dev (flagC s.flags)) (.R b) 2 s

/-- RL IR (91H). R252. -/
def execRl_IR (b : Byte) (s : State) : Result :=
  modify (rlOp s.dev (flagC s.flags)) (.IR b) 2 s

/-- RLC R (10H). R253. -/
def execRlc_R (b : Byte) (s : State) : Result :=
  modify (rlcOp s.dev (flagC s.flags)) (.R b) 2 s

/-- RLC IR (11H). R253. -/
def execRlc_IR (b : Byte) (s : State) : Result :=
  modify (rlcOp s.dev (flagC s.flags)) (.IR b) 2 s

/-- RR R (E0H). R254. -/
def execRr_R (b : Byte) (s : State) : Result :=
  modify (rrOp s.dev (flagC s.flags)) (.R b) 2 s

/-- RR IR (E1H). R254. -/
def execRr_IR (b : Byte) (s : State) : Result :=
  modify (rrOp s.dev (flagC s.flags)) (.IR b) 2 s

/-- RRC R (C0H). R255. -/
def execRrc_R (b : Byte) (s : State) : Result :=
  modify (rrcOp s.dev (flagC s.flags)) (.R b) 2 s

/-- RRC IR (C1H). R255. -/
def execRrc_IR (b : Byte) (s : State) : Result :=
  modify (rrcOp s.dev (flagC s.flags)) (.IR b) 2 s

/-- SRA R (D0H). R256. -/
def execSra_R (b : Byte) (s : State) : Result :=
  modify sraOp (.R b) 2 s

/-- SRA IR (D1H). R256. -/
def execSra_IR (b : Byte) (s : State) : Result :=
  modify sraOp (.IR b) 2 s

/-- SWAP R (F0H). R257. -/
def execSwap_R (b : Byte) (s : State) : Result :=
  modify swapOp (.R b) 2 s

/-- SWAP IR (F1H). R257. -/
def execSwap_IR (b : Byte) (s : State) : Result :=
  modify swapOp (.IR b) 2 s

end Sys2Proof.Machine
end

