-- ==== Sys2Proof/Machine/Dispatch.lean ====
section
/-! DEFINITION. The meaning of each instruction: one arm for each constructor. -/

namespace Sys2Proof.Machine

def exec (i : Instr) (s : State) : Host.Outcome State Fault Refusal :=
  match i with
  | .add_r_r dst src => Sys2Proof.Machine.execAdd_r_r dst src s
  | .add_r_Ir dst src => Sys2Proof.Machine.execAdd_r_Ir dst src s
  | .add_R_R dst src => Sys2Proof.Machine.execAdd_R_R dst src s
  | .add_R_IR dst src => Sys2Proof.Machine.execAdd_R_IR dst src s
  | .add_R_IM dst imm => Sys2Proof.Machine.execAdd_R_IM dst imm s
  | .add_IR_IM dst imm => Sys2Proof.Machine.execAdd_IR_IM dst imm s
  | .adc_r_r dst src => Sys2Proof.Machine.execAdc_r_r dst src s
  | .adc_r_Ir dst src => Sys2Proof.Machine.execAdc_r_Ir dst src s
  | .adc_R_R dst src => Sys2Proof.Machine.execAdc_R_R dst src s
  | .adc_R_IR dst src => Sys2Proof.Machine.execAdc_R_IR dst src s
  | .adc_R_IM dst imm => Sys2Proof.Machine.execAdc_R_IM dst imm s
  | .adc_IR_IM dst imm => Sys2Proof.Machine.execAdc_IR_IM dst imm s
  | .sub_r_r dst src => Sys2Proof.Machine.execSub_r_r dst src s
  | .sub_r_Ir dst src => Sys2Proof.Machine.execSub_r_Ir dst src s
  | .sub_R_R dst src => Sys2Proof.Machine.execSub_R_R dst src s
  | .sub_R_IR dst src => Sys2Proof.Machine.execSub_R_IR dst src s
  | .sub_R_IM dst imm => Sys2Proof.Machine.execSub_R_IM dst imm s
  | .sub_IR_IM dst imm => Sys2Proof.Machine.execSub_IR_IM dst imm s
  | .sbc_r_r dst src => Sys2Proof.Machine.execSbc_r_r dst src s
  | .sbc_r_Ir dst src => Sys2Proof.Machine.execSbc_r_Ir dst src s
  | .sbc_R_R dst src => Sys2Proof.Machine.execSbc_R_R dst src s
  | .sbc_R_IR dst src => Sys2Proof.Machine.execSbc_R_IR dst src s
  | .sbc_R_IM dst imm => Sys2Proof.Machine.execSbc_R_IM dst imm s
  | .sbc_IR_IM dst imm => Sys2Proof.Machine.execSbc_IR_IM dst imm s
  | .or_r_r dst src => Sys2Proof.Machine.execOr_r_r dst src s
  | .or_r_Ir dst src => Sys2Proof.Machine.execOr_r_Ir dst src s
  | .or_R_R dst src => Sys2Proof.Machine.execOr_R_R dst src s
  | .or_R_IR dst src => Sys2Proof.Machine.execOr_R_IR dst src s
  | .or_R_IM dst imm => Sys2Proof.Machine.execOr_R_IM dst imm s
  | .or_IR_IM dst imm => Sys2Proof.Machine.execOr_IR_IM dst imm s
  | .and_r_r dst src => Sys2Proof.Machine.execAnd_r_r dst src s
  | .and_r_Ir dst src => Sys2Proof.Machine.execAnd_r_Ir dst src s
  | .and_R_R dst src => Sys2Proof.Machine.execAnd_R_R dst src s
  | .and_R_IR dst src => Sys2Proof.Machine.execAnd_R_IR dst src s
  | .and_R_IM dst imm => Sys2Proof.Machine.execAnd_R_IM dst imm s
  | .and_IR_IM dst imm => Sys2Proof.Machine.execAnd_IR_IM dst imm s
  | .tcm_r_r dst src => Sys2Proof.Machine.execTcm_r_r dst src s
  | .tcm_r_Ir dst src => Sys2Proof.Machine.execTcm_r_Ir dst src s
  | .tcm_R_R dst src => Sys2Proof.Machine.execTcm_R_R dst src s
  | .tcm_R_IR dst src => Sys2Proof.Machine.execTcm_R_IR dst src s
  | .tcm_R_IM dst imm => Sys2Proof.Machine.execTcm_R_IM dst imm s
  | .tcm_IR_IM dst imm => Sys2Proof.Machine.execTcm_IR_IM dst imm s
  | .tm_r_r dst src => Sys2Proof.Machine.execTm_r_r dst src s
  | .tm_r_Ir dst src => Sys2Proof.Machine.execTm_r_Ir dst src s
  | .tm_R_R dst src => Sys2Proof.Machine.execTm_R_R dst src s
  | .tm_R_IR dst src => Sys2Proof.Machine.execTm_R_IR dst src s
  | .tm_R_IM dst imm => Sys2Proof.Machine.execTm_R_IM dst imm s
  | .tm_IR_IM dst imm => Sys2Proof.Machine.execTm_IR_IM dst imm s
  | .cp_r_r dst src => Sys2Proof.Machine.execCp_r_r dst src s
  | .cp_r_Ir dst src => Sys2Proof.Machine.execCp_r_Ir dst src s
  | .cp_R_R dst src => Sys2Proof.Machine.execCp_R_R dst src s
  | .cp_R_IR dst src => Sys2Proof.Machine.execCp_R_IR dst src s
  | .cp_R_IM dst imm => Sys2Proof.Machine.execCp_R_IM dst imm s
  | .cp_IR_IM dst imm => Sys2Proof.Machine.execCp_IR_IM dst imm s
  | .xor_r_r dst src => Sys2Proof.Machine.execXor_r_r dst src s
  | .xor_r_Ir dst src => Sys2Proof.Machine.execXor_r_Ir dst src s
  | .xor_R_R dst src => Sys2Proof.Machine.execXor_R_R dst src s
  | .xor_R_IR dst src => Sys2Proof.Machine.execXor_R_IR dst src s
  | .xor_R_IM dst imm => Sys2Proof.Machine.execXor_R_IM dst imm s
  | .xor_IR_IM dst imm => Sys2Proof.Machine.execXor_IR_IM dst imm s
  | .dec_R b => Sys2Proof.Machine.execDec_R b s
  | .dec_IR b => Sys2Proof.Machine.execDec_IR b s
  | .rlc_R b => Sys2Proof.Machine.execRlc_R b s
  | .rlc_IR b => Sys2Proof.Machine.execRlc_IR b s
  | .inc_R b => Sys2Proof.Machine.execInc_R b s
  | .inc_IR b => Sys2Proof.Machine.execInc_IR b s
  | .da_R b => Sys2Proof.Machine.execDa_R b s
  | .da_IR b => Sys2Proof.Machine.execDa_IR b s
  | .pop_R b => Sys2Proof.Machine.execPop_R b s
  | .pop_IR b => Sys2Proof.Machine.execPop_IR b s
  | .com_R b => Sys2Proof.Machine.execCom_R b s
  | .com_IR b => Sys2Proof.Machine.execCom_IR b s
  | .push_R b => Sys2Proof.Machine.execPush_R b s
  | .push_IR b => Sys2Proof.Machine.execPush_IR b s
  | .decw_RR b => Sys2Proof.Machine.execDecw_RR b s
  | .decw_IR b => Sys2Proof.Machine.execDecw_IR b s
  | .rl_R b => Sys2Proof.Machine.execRl_R b s
  | .rl_IR b => Sys2Proof.Machine.execRl_IR b s
  | .incw_RR b => Sys2Proof.Machine.execIncw_RR b s
  | .incw_IR b => Sys2Proof.Machine.execIncw_IR b s
  | .clr_R b => Sys2Proof.Machine.execClr_R b s
  | .clr_IR b => Sys2Proof.Machine.execClr_IR b s
  | .rrc_R b => Sys2Proof.Machine.execRrc_R b s
  | .rrc_IR b => Sys2Proof.Machine.execRrc_IR b s
  | .sra_R b => Sys2Proof.Machine.execSra_R b s
  | .sra_IR b => Sys2Proof.Machine.execSra_IR b s
  | .rr_R b => Sys2Proof.Machine.execRr_R b s
  | .rr_IR b => Sys2Proof.Machine.execRr_IR b s
  | .swap_R b => Sys2Proof.Machine.execSwap_R b s
  | .swap_IR b => Sys2Proof.Machine.execSwap_IR b s
  | .jp_IRR b => Sys2Proof.Machine.execJp_IRR b s
  | .srp_IM imm => Sys2Proof.Machine.execSrp_IM imm s
  | .ldc_r_Irr dst p => Sys2Proof.Machine.execLdc_r_Irr dst p s
  | .ldci_Ir_Irr n p => Sys2Proof.Machine.execLdci_Ir_Irr n p s
  | .ld_r_X dst x base => Sys2Proof.Machine.execLd_r_X dst x base s
  | .ldc_Irr_r hi lo => Sys2Proof.Machine.execLdc_Irr_r hi lo s
  | .ldci_Irr_Ir hi lo => Sys2Proof.Machine.execLdci_Irr_Ir hi lo s
  | .call_IRR b => Sys2Proof.Machine.execCall_IRR b s
  | .call_DA target => Sys2Proof.Machine.execCall_DA target s
  | .ld_X_r src x base => Sys2Proof.Machine.execLd_X_r src x base s
  | .ld_r_Ir dst src => Sys2Proof.Machine.execLd_r_Ir dst src s
  | .ld_R_R dst src => Sys2Proof.Machine.execLd_R_R dst src s
  | .ld_R_IR dst src => Sys2Proof.Machine.execLd_R_IR dst src s
  | .ld_R_IM dst imm => Sys2Proof.Machine.execLd_R_IM dst imm s
  | .ld_IR_IM dst imm => Sys2Proof.Machine.execLd_IR_IM dst imm s
  | .ld_Ir_r dst src => Sys2Proof.Machine.execLd_Ir_r dst src s
  | .ld_IR_R dst src => Sys2Proof.Machine.execLd_IR_R dst src s
  | .wdt => Sys2Proof.Machine.execWdt s
  | .stop => Sys2Proof.Machine.execStop s
  | .halt => Sys2Proof.Machine.execHalt s
  | .di => Sys2Proof.Machine.execDi s
  | .ei => Sys2Proof.Machine.execEi s
  | .ret => Sys2Proof.Machine.execRet s
  | .iret => Sys2Proof.Machine.execIret s
  | .rcf => Sys2Proof.Machine.execRcf s
  | .scf => Sys2Proof.Machine.execScf s
  | .ccf => Sys2Proof.Machine.execCcf s
  | .nop => Sys2Proof.Machine.execNop s
  | .ld_r_R dst src => Sys2Proof.Machine.execLd_r_R dst src s
  | .ld_R_r dst src => Sys2Proof.Machine.execLd_R_r dst src s
  | .djnz_r_RA n offset => Sys2Proof.Machine.execDjnz_r_RA n offset s
  | .jr_cc_RA cc offset => Sys2Proof.Machine.execJr_cc_RA cc offset s
  | .ld_r_IM dst imm => Sys2Proof.Machine.execLd_r_IM dst imm s
  | .jp_cc_DA cc target => Sys2Proof.Machine.execJp_cc_DA cc target s
  | .inc_r dst => Sys2Proof.Machine.execInc_r dst s
  | .reserved_0F => Sys2Proof.Machine.execReserved_0F s
  | .reserved_1F => Sys2Proof.Machine.execReserved_1F s
  | .reserved_2F => Sys2Proof.Machine.execReserved_2F s
  | .reserved_3F => Sys2Proof.Machine.execReserved_3F s
  | .reserved_4F => Sys2Proof.Machine.execReserved_4F s
  | .reserved_82 => Sys2Proof.Machine.execReserved_82 s
  | .reserved_83 => Sys2Proof.Machine.execReserved_83 s
  | .reserved_84 => Sys2Proof.Machine.execReserved_84 s
  | .reserved_85 => Sys2Proof.Machine.execReserved_85 s
  | .reserved_86 => Sys2Proof.Machine.execReserved_86 s
  | .reserved_87 => Sys2Proof.Machine.execReserved_87 s
  | .reserved_92 => Sys2Proof.Machine.execReserved_92 s
  | .reserved_93 => Sys2Proof.Machine.execReserved_93 s
  | .reserved_94 => Sys2Proof.Machine.execReserved_94 s
  | .reserved_95 => Sys2Proof.Machine.execReserved_95 s
  | .reserved_96 => Sys2Proof.Machine.execReserved_96 s
  | .reserved_97 => Sys2Proof.Machine.execReserved_97 s
  | .reserved_C4 => Sys2Proof.Machine.execReserved_C4 s
  | .reserved_C5 => Sys2Proof.Machine.execReserved_C5 s
  | .reserved_C6 => Sys2Proof.Machine.execReserved_C6 s
  | .reserved_D5 => Sys2Proof.Machine.execReserved_D5 s
  | .reserved_E2 => Sys2Proof.Machine.execReserved_E2 s
  | .reserved_F2 => Sys2Proof.Machine.execReserved_F2 s
  | .reserved_F4 => Sys2Proof.Machine.execReserved_F4 s
  | .reserved_F6 => Sys2Proof.Machine.execReserved_F6 s
  | .reserved_F7 => Sys2Proof.Machine.execReserved_F7 s

end Sys2Proof.Machine
end

