-- ==== Sys2Proof/Machine/Events.lean ====
section
/-! DEFINITION. What happens at a boundary between instructions: the environment's events (60_exceptions.md R301,
70_reset_and_hazards.md R353) and the interrupt check (R305). -/

namespace Sys2Proof.Machine

/-- `enabled_s(IMR)`: a predicate over IMR bits 6:0 (R302). -/
def irqEnabled (e : IrqEnable) (imr : Byte) : Bool :=
  match e with
  | .always => true
  | .whenBit n => imr.getLsbD n.val
  | .oneOf values => values.contains (imr.extractLsb' 0 7)

/-- IMR(7), the global enable (10_state.md R42). -/
def masterEnable (imr : Byte) : Bool := imr.getLsbD 7

/-- The set `T` of R305, in the order of `IRQ`. -/
def State.takeable (s : State) : List IrqSource :=
  s.dev.irq.filter fun src =>
    s.pending.contains src.name && masterEnable s.imr && irqEnabled src.enable s.imr

/-- The member with the highest priority rank (R305, R310); of equal ranks the first in `IRQ` (log 16). -/
def highestRank : List IrqSource → Option IrqSource
  | [] => none
  | x :: xs =>
    match highestRank xs with
    | none => some x
    | some y => if y.rank > x.rank then some y else some x

/-- What the check of R305 finds: the source to take, if any. A stopped machine examines no interrupt (R323). -/
def State.interruptDue (s : State) : Option IrqSource :=
  match s.mode with
  | .running => highestRank s.takeable
  | .halted => highestRank s.takeable
  | .stopped => none

/-- Take a source: it leaves `pending`, the machine runs, and entry is made (R305). -/
def State.takeInterrupt (s : State) (src : IrqSource) : Result :=
  State.interruptEntry { s with pending := s.pending.filter (· ≠ src.name), mode := .running } src.handler

/-- A request number names a source of `IRQ`. -/
def isSource (d : Device) (n : Nat) : Bool := d.irq.any fun src => src.name == n

/-- `pending <- pending + {s}` (R303). The environment makes only sources of `IRQ` pending (70_reset_and_hazards.md
R353). DESIGN CHOICE (log 42): a number that names none has no effect. -/
def State.request (s : State) (source : Nat) : State :=
  if !isSource s.dev source || s.pending.contains source then s else { s with pending := s.pending ++ [source] }

/-- The environment withdraws a request (R303). -/
def State.withdraw (s : State) (source : Nat) : State := { s with pending := s.pending.filter (· ≠ source) }

/-- Requests and withdrawals, in order (R303). -/
def State.latch : State → List LineEvent → State
  | s, [] => s
  | s, .request source :: rest => State.latch (s.request source) rest
  | s, .withdraw source :: rest => State.latch (s.withdraw source) rest

/-- What the environment does at the coming boundary; after the end of the script, nothing. -/
def State.boundary (s : State) : Boundary := s.script.headD {}

/-- The coming boundary is reached: its entry leaves the script and its requests and withdrawals are latched. -/
def State.arrive (s : State) : State := State.latch { s with script := s.script.tail } s.boundary.requests

/-! ## Restarts by the environment -/

/-- The RESET pin: WDTF and SMRF cleared, the other flags unchanged (70_reset_and_hazards.md R340). -/
def State.resetPin (s : State) : State := (s.setFlags (s.flags &&& 0xFC#8)).restart

/-- A watch-dog timeout: refused with WDTF still set; WDTF set, every other flag unchanged (R324). -/
def State.wdtTimeout (s : State) : Result :=
  guarded [stopIf (flagWdt s.flags) .staleTimeout] <|
    .next (s.setFlags (s.flags ||| 0x02#8)).restart

/-- A stop-mode recovery: a restart with FLAGS unchanged (R323). -/
def State.stopRecovery (s : State) : State := s.restart

/-- The watch-dog runs, also in HALT (R322). DESIGN CHOICE (log 41): whether it runs in STOP, which R323 leaves open, is
a parameter of the device. -/
def State.wdtRuns (s : State) : Bool :=
  match s.mode with
  | .running => true
  | .halted => true
  | .stopped => s.dev.wdtInStop

/-- `WDT_PERIOD` is finite and at least that long has passed since the last refresh or restart (R324,
70_reset_and_hazards.md R353). -/
def State.wdtDue (s : State) : Bool :=
  match s.dev.wdtPeriod with
  | none => false
  | some period => s.wdtRuns && decide (period ≤ s.sinceRefresh)

/-- The restart that the environment delivers at a boundary, else `go`. Of several given at once the first of RESET
pin, watch-dog timeout and stop-mode recovery is taken and the others are dropped (70_reset_and_hazards.md R353), and
a restart outranks an interrupt (R310). A stop-mode recovery is delivered only in `Stopped` (R353); in another mode it
has no effect (log 19). -/
def State.restartOr (s : State) (b : Boundary) (go : State → Result) : Result :=
  if b.resetPin then .next s.resetPin
  else if s.wdtDue && !b.wdtHeld then s.wdtTimeout
  else if b.stopRecovery && decide (s.mode = .stopped) then .next s.stopRecovery
  else go s

/-! ## Counting and the end of a run -/

/-- One more instruction was executed (70_reset_and_hazards.md R352, log 14). -/
def State.countInstruction (s : State) : State :=
  { s with executed := s.executed + 1, sinceRefresh := s.sinceRefresh + 1 }

/-- A halted or stopped machine stays as it is (R322, R323). A watch-dog that runs and has a finite period counts the
boundary as one instruction time (log 20). -/
def State.idle (s : State) : State :=
  match s.dev.wdtPeriod with
  | none => s
  | some _ => if s.wdtRuns then { s with sinceRefresh := s.sinceRefresh + 1 } else s

/-- PC equals `END_PC` (70_reset_and_hazards.md R352: the end address). -/
def State.atEnd (s : State) : Bool := s.dev.endPc == some s.pc

/-- The run ends before the fetch at `END_PC` (R352). -/
def State.finish (s : State) : State := { s with ended := true }

end Sys2Proof.Machine
end

