-- ==== Sys2Proof/Machine/Fetch.lean ====
section
/-! DEFINITION. Fetching the bytes of the next instruction (30_encoding.md R90, R120). -/

namespace Sys2Proof.Machine

/-- Fetch `n` bytes at rising program addresses and go on with them (20_memory.md R64, R65; 10_state.md R29: PC
wraps). -/
def fetchBytes (s : State) : Nat → Word → (List Byte → Result) → Result
  | 0, _, k => k []
  | n + 1, a, k => s.withProgByte a fun b => fetchBytes s n (a + 1) fun bs => k (b :: bs)

/-- Fetch the op code, then the operand bytes its length needs and no more (R120), and run what they decode to. -/
def fetchThen (s : State) (run : Instr → Result) : Result :=
  s.withProgByte s.pc fun b1 =>
    fetchBytes s (opLength b1 - 1) (s.pc + 1) fun bs =>
      run (decodeBytes b1 (bs.getD 0 0) (bs.getD 1 0))

end Sys2Proof.Machine
end

