-- ==== Sys2Proof/Machine/Step.lean ====
section
/-! DEFINITION. One step of the machine: what the environment does at one boundary, and then a restart, an interrupt entry,
one instruction, or, halted or stopped, nothing (60_exceptions.md R304, R305, R322, R323; 70_reset_and_hazards.md
R352, R353). -/

namespace Sys2Proof.Machine

/-- Fetch, decode and execute the instruction at `pc`, counting it. -/
def State.runInstruction (s : State) : Host.Outcome State Fault Refusal :=
  fetchThen s fun i => exec i s.countInstruction

/-- What follows where no restart was delivered: the interrupt check, and if it takes nothing an instruction, or the end
of the run at `END_PC`, or nothing. -/
def State.proceed (s : State) : Host.Outcome State Fault Refusal :=
  match s.interruptDue with
  | some src => s.takeInterrupt src
  | none =>
    match s.mode with
    | .running => if s.atEnd then .next s.finish else s.runInstruction
    | .halted => .next s.idle
    | .stopped => .next s.idle

/-- One step, from one boundary between instructions to the next. A run that has ended stays as it is (R352). -/
def step (s : State) : Host.Outcome State Fault Refusal :=
  if s.ended then .next s else s.arrive.restartOr s.boundary State.proceed

/-- `s` with the instruction of an op code table row (`nbits` bits `w`, later bits 0) loaded where the next step
fetches, and nothing that would come before it: the machine runs, no event and no request is waiting, no time has
passed since the last refresh, and no `END_PC` ends the run. It stands for the load of a program from outside (R352,
log 5). -/
def State.withFetchWord (s : State) (nbits w : Nat) : State :=
  { s.loadProgram s.pc (tableBytes nbits w) with
    mode := .running
    pending := []
    dev := { s.dev with endPc := none }
    script := []
    sinceRefresh := 0
    ended := false }

end Sys2Proof.Machine
end

