-- ==== Sys2Proof/Machine/Forms.lean ====
section
/-! DEFINITION. The rows of the op code map grouped by shape, for statements that say one thing of several of them: the
two-operand group with the six forms of 30_encoding.md R93, the one-operand group with its two, and the LD forms.
Nothing here has a meaning of its own; `exec` does not use it. -/

namespace Sys2Proof.Machine

/-- The six forms of the two-operand group (R93). -/
inductive TwoForm where
  | r_r (dst src : Nibble)
  | r_Ir (dst src : Nibble)
  | R_R (dst src : Byte)
  | R_IR (dst src : Byte)
  | R_IM (dst imm : Byte)
  | IR_IM (dst imm : Byte)
deriving DecidableEq, Repr

def TwoForm.dst : TwoForm → Loc
  | .r_r d _ => .r d
  | .r_Ir d _ => .r d
  | .R_R d _ => .R d
  | .R_IR d _ => .R d
  | .R_IM d _ => .R d
  | .IR_IM d _ => .IR d

def TwoForm.src : TwoForm → Src
  | .r_r _ x => .loc (.r x)
  | .r_Ir _ x => .loc (.Ir x)
  | .R_R _ x => .loc (.R x)
  | .R_IR _ x => .loc (.IR x)
  | .R_IM _ v => .im v
  | .IR_IM _ v => .im v

def TwoForm.length : TwoForm → Word
  | .r_r _ _ => 2
  | .r_Ir _ _ => 2
  | .R_R _ _ => 3
  | .R_IR _ _ => 3
  | .R_IM _ _ => 3
  | .IR_IM _ _ => 3

/-- The lower op code nibble (R93). -/
def TwoForm.column : TwoForm → Nibble
  | .r_r _ _ => 2#4
  | .r_Ir _ _ => 3#4
  | .R_R _ _ => 4#4
  | .R_IR _ _ => 5#4
  | .R_IM _ _ => 6#4
  | .IR_IM _ _ => 7#4

def addInstr : TwoForm → Instr
  | .r_r d x => .add_r_r d x
  | .r_Ir d x => .add_r_Ir d x
  | .R_R d x => .add_R_R d x
  | .R_IR d x => .add_R_IR d x
  | .R_IM d v => .add_R_IM d v
  | .IR_IM d v => .add_IR_IM d v

def adcInstr : TwoForm → Instr
  | .r_r d x => .adc_r_r d x
  | .r_Ir d x => .adc_r_Ir d x
  | .R_R d x => .adc_R_R d x
  | .R_IR d x => .adc_R_IR d x
  | .R_IM d v => .adc_R_IM d v
  | .IR_IM d v => .adc_IR_IM d v

def subInstr : TwoForm → Instr
  | .r_r d x => .sub_r_r d x
  | .r_Ir d x => .sub_r_Ir d x
  | .R_R d x => .sub_R_R d x
  | .R_IR d x => .sub_R_IR d x
  | .R_IM d v => .sub_R_IM d v
  | .IR_IM d v => .sub_IR_IM d v

def sbcInstr : TwoForm → Instr
  | .r_r d x => .sbc_r_r d x
  | .r_Ir d x => .sbc_r_Ir d x
  | .R_R d x => .sbc_R_R d x
  | .R_IR d x => .sbc_R_IR d x
  | .R_IM d v => .sbc_R_IM d v
  | .IR_IM d v => .sbc_IR_IM d v

def cpInstr : TwoForm → Instr
  | .r_r d x => .cp_r_r d x
  | .r_Ir d x => .cp_r_Ir d x
  | .R_R d x => .cp_R_R d x
  | .R_IR d x => .cp_R_IR d x
  | .R_IM d v => .cp_R_IM d v
  | .IR_IM d v => .cp_IR_IM d v

def andInstr : TwoForm → Instr
  | .r_r d x => .and_r_r d x
  | .r_Ir d x => .and_r_Ir d x
  | .R_R d x => .and_R_R d x
  | .R_IR d x => .and_R_IR d x
  | .R_IM d v => .and_R_IM d v
  | .IR_IM d v => .and_IR_IM d v

def orInstr : TwoForm → Instr
  | .r_r d x => .or_r_r d x
  | .r_Ir d x => .or_r_Ir d x
  | .R_R d x => .or_R_R d x
  | .R_IR d x => .or_R_IR d x
  | .R_IM d v => .or_R_IM d v
  | .IR_IM d v => .or_IR_IM d v

def xorInstr : TwoForm → Instr
  | .r_r d x => .xor_r_r d x
  | .r_Ir d x => .xor_r_Ir d x
  | .R_R d x => .xor_R_R d x
  | .R_IR d x => .xor_R_IR d x
  | .R_IM d v => .xor_R_IM d v
  | .IR_IM d v => .xor_IR_IM d v

def tcmInstr : TwoForm → Instr
  | .r_r d x => .tcm_r_r d x
  | .r_Ir d x => .tcm_r_Ir d x
  | .R_R d x => .tcm_R_R d x
  | .R_IR d x => .tcm_R_IR d x
  | .R_IM d v => .tcm_R_IM d v
  | .IR_IM d v => .tcm_IR_IM d v

def tmInstr : TwoForm → Instr
  | .r_r d x => .tm_r_r d x
  | .r_Ir d x => .tm_r_Ir d x
  | .R_R d x => .tm_R_R d x
  | .R_IR d x => .tm_R_IR d x
  | .R_IM d v => .tm_R_IM d v
  | .IR_IM d v => .tm_IR_IM d v

/-- The two forms of the one-operand group (40_load.md R141, 46_rotate_shift.md R250), and the working-register form
that INC alone has (41_arithmetic.md R177). -/
inductive OneForm where
  | R (b : Byte)
  | IR (b : Byte)
deriving DecidableEq, Repr

def OneForm.loc : OneForm → Loc
  | .R b => .R b
  | .IR b => .IR b

/-- The lower op code nibble. -/
def OneForm.column : OneForm → Nibble
  | .R _ => 0#4
  | .IR _ => 1#4

def decInstr : OneForm → Instr
  | .R b => .dec_R b
  | .IR b => .dec_IR b

def daInstr : OneForm → Instr
  | .R b => .da_R b
  | .IR b => .da_IR b

def comInstr : OneForm → Instr
  | .R b => .com_R b
  | .IR b => .com_IR b

def rlInstr : OneForm → Instr
  | .R b => .rl_R b
  | .IR b => .rl_IR b

def rlcInstr : OneForm → Instr
  | .R b => .rlc_R b
  | .IR b => .rlc_IR b

def rrInstr : OneForm → Instr
  | .R b => .rr_R b
  | .IR b => .rr_IR b

def rrcInstr : OneForm → Instr
  | .R b => .rrc_R b
  | .IR b => .rrc_IR b

def sraInstr : OneForm → Instr
  | .R b => .sra_R b
  | .IR b => .sra_IR b

def swapInstr : OneForm → Instr
  | .R b => .swap_R b
  | .IR b => .swap_IR b

/-- The register pair itself (RR), or the pair whose even address a register holds (IR). -/
def decwInstr : OneForm → Instr
  | .R b => .decw_RR b
  | .IR b => .decw_IR b

def incwInstr : OneForm → Instr
  | .R b => .incw_RR b
  | .IR b => .incw_IR b

def popInstr : OneForm → Instr
  | .R b => .pop_R b
  | .IR b => .pop_IR b

def pushInstr : OneForm → Instr
  | .R b => .push_R b
  | .IR b => .push_IR b

/-- The three forms of INC (41_arithmetic.md R177). -/
inductive IncForm where
  | r (n : Nibble)
  | R (b : Byte)
  | IR (b : Byte)
deriving DecidableEq, Repr

def IncForm.loc : IncForm → Loc
  | .r n => .r n
  | .R b => .R b
  | .IR b => .IR b

def IncForm.length : IncForm → Word
  | .r _ => 1
  | .R _ => 2
  | .IR _ => 2

def incInstr : IncForm → Instr
  | .r n => .inc_r n
  | .R b => .inc_R b
  | .IR b => .inc_IR b

/-- CLR and the twelve forms of LD (40_load.md R141 to R153): what each stores where. -/
inductive LoadForm where
  | clr_R (b : Byte)
  | clr_IR (b : Byte)
  | r_IM (dst : Nibble) (imm : Byte)
  | r_R (dst : Nibble) (src : Byte)
  | R_r (dst : Byte) (src : Nibble)
  | r_X (dst x : Nibble) (base : Byte)
  | X_r (src x : Nibble) (base : Byte)
  | r_Ir (dst src : Nibble)
  | Ir_r (dst src : Nibble)
  | R_R (dst src : Byte)
  | R_IR (dst src : Byte)
  | R_IM (dst imm : Byte)
  | IR_IM (dst imm : Byte)
  | IR_R (dst src : Byte)
deriving DecidableEq, Repr

def LoadForm.dst : LoadForm → Loc
  | .clr_R b => .R b
  | .clr_IR b => .IR b
  | .r_IM d _ => .r d
  | .r_R d _ => .r d
  | .R_r d _ => .R d
  | .r_X d _ _ => .r d
  | .X_r _ x o => .X o x
  | .r_Ir d _ => .r d
  | .Ir_r d _ => .Ir d
  | .R_R d _ => .R d
  | .R_IR d _ => .R d
  | .R_IM d _ => .R d
  | .IR_IM d _ => .IR d
  | .IR_R d _ => .IR d

def LoadForm.src : LoadForm → Src
  | .clr_R _ => .im 0x00#8
  | .clr_IR _ => .im 0x00#8
  | .r_IM _ v => .im v
  | .r_R _ x => .loc (.R x)
  | .R_r _ x => .loc (.r x)
  | .r_X _ x o => .loc (.X o x)
  | .X_r y _ _ => .loc (.r y)
  | .r_Ir _ x => .loc (.Ir x)
  | .Ir_r _ x => .loc (.r x)
  | .R_R _ x => .loc (.R x)
  | .R_IR _ x => .loc (.IR x)
  | .R_IM _ v => .im v
  | .IR_IM _ v => .im v
  | .IR_R _ x => .loc (.R x)

def LoadForm.length : LoadForm → Word
  | .clr_R _ => 2
  | .clr_IR _ => 2
  | .r_IM _ _ => 2
  | .r_R _ _ => 2
  | .R_r _ _ => 2
  | .r_X _ _ _ => 3
  | .X_r _ _ _ => 3
  | .r_Ir _ _ => 2
  | .Ir_r _ _ => 2
  | .R_R _ _ => 3
  | .R_IR _ _ => 3
  | .R_IM _ _ => 3
  | .IR_IM _ _ => 3
  | .IR_R _ _ => 3

def loadInstr : LoadForm → Instr
  | .clr_R b => .clr_R b
  | .clr_IR b => .clr_IR b
  | .r_IM d v => .ld_r_IM d v
  | .r_R d x => .ld_r_R d x
  | .R_r d x => .ld_R_r d x
  | .r_X d x o => .ld_r_X d x o
  | .X_r y x o => .ld_X_r y x o
  | .r_Ir d x => .ld_r_Ir d x
  | .Ir_r d x => .ld_Ir_r d x
  | .R_R d x => .ld_R_R d x
  | .R_IR d x => .ld_R_IR d x
  | .R_IM d v => .ld_R_IM d v
  | .IR_IM d v => .ld_IR_IM d v
  | .IR_R d x => .ld_IR_R d x

/-- The reserved op codes with the byte of each (30_encoding.md R105). -/
def reservedInstrs : List (Byte × Instr) :=
  [(0x0F#8, .reserved_0F), (0x1F#8, .reserved_1F), (0x2F#8, .reserved_2F), (0x3F#8, .reserved_3F),
    (0x4F#8, .reserved_4F), (0x82#8, .reserved_82), (0x83#8, .reserved_83), (0x84#8, .reserved_84),
    (0x85#8, .reserved_85), (0x86#8, .reserved_86), (0x87#8, .reserved_87), (0x92#8, .reserved_92),
    (0x93#8, .reserved_93), (0x94#8, .reserved_94), (0x95#8, .reserved_95), (0x96#8, .reserved_96),
    (0x97#8, .reserved_97), (0xC4#8, .reserved_C4), (0xC5#8, .reserved_C5), (0xC6#8, .reserved_C6),
    (0xD5#8, .reserved_D5), (0xE2#8, .reserved_E2), (0xF2#8, .reserved_F2), (0xF4#8, .reserved_F4),
    (0xF6#8, .reserved_F6), (0xF7#8, .reserved_F7)]

end Sys2Proof.Machine
end

