-- ==== Sys2Proof/Safety.lean ====
section
/-! DEFINITION. The terms statements use: a well-formed device and state, what an instruction leaves unchanged, when
nothing refuses it, and the ends of a run (70_reset_and_hazards.md R352). -/

namespace Sys2Proof

open Machine

/-- What R6 asks of a device: the control registers are there (`RF_PRESENT` "must be true at FBH, FCH, FDH and at
`SP_ADDR`") and are the CPU's own, SP is a register of its own, and the interrupt sources have different names. -/
abbrev Device.wf (d : Device) : Prop :=
  (∀ a ∈ [imrAddr, flagsAddr, rpAddr, d.spAddr], hasRegister d a = true ∧ isDevice d a = false) ∧
    d.spAddr ∉ [imrAddr, flagsAddr, rpAddr] ∧ (d.irq.map (·.name)).Nodup

/-- The device has all 256 registers and no peripheral. -/
abbrev Device.full (d : Device) : Prop := ∀ a : Byte, hasRegister d a = true ∧ isDevice d a = false

end Sys2Proof

namespace Sys2Proof.Machine

/-- None of these reasons to refuse is present. -/
def NoStop (stops : List (Option Refusal)) : Prop := ∀ c ∈ stops, c = none

/-- A register that is present and no peripheral. -/
abbrev State.ordinary (s : State) (a : Byte) : Prop := hasRegister s.dev a = true ∧ isDevice s.dev a = false

/-- Both memories are in their canonical form and `pending` is a set of sources of `IRQ` (60_exceptions.md R303). -/
abbrev State.wf (s : State) : Prop :=
  Memory.wf regFill 256 s.regs ∧ Memory.wf progFill 65536 s.prog ∧
    (s.pending.Nodup ∧ ∀ n ∈ s.pending, isSource s.dev n = true)

/-! ## When operands may be used -/

/-- The pointer or index register of an operand, if it has one, is ordinary (10_state.md R24, 20_memory.md R69). -/
abbrev Loc.pointerOk (l : Loc) (s : State) : Prop :=
  match l with
  | .r _ => True
  | .R _ => True
  | .Ir n => s.ordinary (s.wr n)
  | .IR b => s.ordinary (s.reg8 b)
  | .X _ n => s.ordinary (s.wr n)

/-- The operand may be read, or written by a load: its pointer is ordinary and its cell is present. -/
abbrev Loc.accessible (l : Loc) (s : State) : Prop := l.pointerOk s ∧ hasRegister s.dev (l.address s) = true

/-- The operand may be rewritten by a flag-affecting instruction: its pointer and its cell are ordinary and the cell
is not FLAGS (10_state.md R40). -/
abbrev Loc.rewritable (l : Loc) (s : State) : Prop :=
  l.pointerOk s ∧ s.ordinary (l.address s) ∧ l.address s ≠ flagsAddr

/-- The source may be read; an immediate always may. -/
abbrev Src.readable (src : Src) (s : State) : Prop :=
  match src with
  | .loc l => l.accessible s
  | .im _ => True

/-- `a` may be the address of a register pair: even, and both halves ordinary (10_state.md R23). -/
abbrev State.pairOk (s : State) (a : Byte) : Prop := a.getLsbD 0 = false ∧ s.ordinary a ∧ s.ordinary (a + 1)

/-- `a` may be a stack cell: ordinary, and not the SP register (10_state.md R43). -/
abbrev State.stackCell (s : State) (a : Byte) : Prop := a ≠ s.dev.spAddr ∧ s.ordinary a

/-- A program byte is there and holds `v`. -/
abbrev State.loaded (s : State) (a : Word) (v : Byte) : Prop := hasProgram s.dev a = true ∧ s.progByte a = some v

/-! ## What is left alone -/

/-- Everything but the registers, program memory and the program counter. -/
abbrev SameRest (s t : State) : Prop :=
  t.mode = s.mode ∧ t.pending = s.pending ∧ t.dev = s.dev ∧ t.script = s.script ∧ t.emitted = s.emitted ∧
    t.executed = s.executed ∧ t.sinceRefresh = s.sinceRefresh ∧ t.ended = s.ended

/-- Everything but the program counter and the registers `written` is in `t` as it was in `s`. -/
abbrev SameBut (s t : State) (written : List Byte) : Prop :=
  (∀ a, a ∉ written → t.reg a = s.reg a) ∧ (∀ a, t.progByte a = s.progByte a) ∧ SameRest s t

/-- A plain write of `v` to `x[d]` and nothing else but the program counter: an ordinary register takes the value, a
peripheral register is not stored to and the write is an event (10_state.md R25). -/
abbrev PlainWrite (s t : State) (d v : Byte) : Prop :=
  (isDevice s.dev d = false → t.reg d = v ∧ SameBut s t [d]) ∧
    (isDevice s.dev d = true → SameBut (s.emit (.deviceWrite d v)) t [])

/-- Run one instruction `n` times. -/
def repeatExec (i : Instr) : Nat → State → Result
  | 0, s => .next s
  | n + 1, s =>
    match exec i s with
    | .next t => repeatExec i n t
    | .fault f => .fault f
    | .refused r => .refused r

/-- Everything a program can see, and the program counter and the mode, is in `t` as it was in `s`. -/
abbrev SameMachine (s t : State) : Prop :=
  (∀ a, t.reg a = s.reg a) ∧ (∀ a, t.progByte a = s.progByte a) ∧ t.pc = s.pc ∧ t.mode = s.mode ∧ t.dev = s.dev ∧
    t.emitted = s.emitted ∧ t.executed = s.executed

/-- The instruction is refused for one of these reasons. -/
abbrev Refuses (i : Instr) (s : State) (reasons : List Refusal) : Prop := ∃ r ∈ reasons, exec i s = .refused r

/-- The instructions that may write pc, or whose length is the device's: for every other one pc moves past its bytes
(10_state.md R29). -/
def mayWritePc (i : Instr) : Prop :=
  (∃ a, i = .call_DA a) ∨ (∃ b, i = .call_IRR b ∨ i = .jp_IRR b) ∨ (∃ n o, i = .djnz_r_RA n o) ∨
    (∃ cc a, i = .jp_cc_DA cc a) ∨ (∃ cc o, i = .jr_cc_RA cc o) ∨ i = .iret ∨ i = .ret ∨ ∃ b, (b, i) ∈ reservedInstrs

/-! ## Boundaries and ends of a run -/

/-- A boundary at which nothing comes before the next instruction: the machine runs, the environment does nothing, no
watch-dog timeout is due, no interrupt can be taken (60_exceptions.md R305) and the run does not end. -/
abbrev State.undisturbed (s : State) : Prop :=
  s.mode = .running ∧ s.boundary = {} ∧ s.wdtDue = false ∧ s.interruptDue = none ∧ s.atEnd = false ∧ s.ended = false

/-- At the coming boundary the environment delivers no restart. -/
abbrev State.noRestart (s : State) : Prop :=
  s.boundary.resetPin = false ∧ (s.wdtDue = false ∨ s.boundary.wdtHeld = true) ∧
    (s.boundary.stopRecovery = false ∨ s.mode ≠ .stopped)

/-- The bytes `bs` are program memory from `a` on, addresses modulo 2^16. -/
def State.holds (s : State) : Word → List Byte → Prop
  | _, [] => True
  | a, b :: bs => hasProgram s.dev a = true ∧ s.progByte a = some b ∧ State.holds s (a + 1) bs

/-- The quiescent halt of R352: halted, no source can become pending and enabled with IMR(7) = 1, `WDT_PERIOD` is
infinite, and no reset comes. -/
abbrev State.quiescentHalt (s : State) : Prop :=
  s.mode = .halted ∧ s.dev.wdtPeriod = none ∧ (∀ b ∈ s.script, b.resetPin = false) ∧
    ∀ src ∈ s.dev.irq, masterEnable s.imr = true → irqEnabled src.enable s.imr = true →
      src.name ∉ s.pending ∧ ∀ b ∈ s.script, .request src.name ∉ b.requests

/-- The quiescent stop of R352: stopped, and no stop-mode recovery, reset or watch-dog timeout comes. -/
abbrev State.quiescentStop (s : State) : Prop :=
  s.mode = .stopped ∧ (s.dev.wdtPeriod = none ∨ s.dev.wdtInStop = false) ∧
    ∀ b ∈ s.script, b.resetPin = false ∧ b.stopRecovery = false

end Sys2Proof.Machine
end

