-- ==== Sys2Proof/WellFormed.lean ====
section
/-! DEFINITION. Which instructions keep to the operand ranges of 00_scope.md R11: a register pair is named by an even
number (10_state.md R23, 30_encoding.md R107). Every other operand may have any value its field can hold. The
resolved address of a pair is even exactly when its operand is: the E escape keeps bit 0 (R96, R22). -/

namespace Sys2Proof

/-- A working-register pair number `p = 0, 2, ..., 14`. -/
def evenPair (p : Nibble) : Bool := !p.getLsbD 0

/-- A register operand byte that names a pair. -/
def evenByte (b : Byte) : Bool := !b.getLsbD 0

/-- Every pair operand is even. `order` is `LDC_STORE_NIBBLES`. -/
def Instr.wellFormed (order : NibbleOrder) (i : Instr) : Bool :=
  match i with
  | .add_r_r _ _ => true
  | .add_r_Ir _ _ => true
  | .add_R_R _ _ => true
  | .add_R_IR _ _ => true
  | .add_R_IM _ _ => true
  | .add_IR_IM _ _ => true
  | .adc_r_r _ _ => true
  | .adc_r_Ir _ _ => true
  | .adc_R_R _ _ => true
  | .adc_R_IR _ _ => true
  | .adc_R_IM _ _ => true
  | .adc_IR_IM _ _ => true
  | .sub_r_r _ _ => true
  | .sub_r_Ir _ _ => true
  | .sub_R_R _ _ => true
  | .sub_R_IR _ _ => true
  | .sub_R_IM _ _ => true
  | .sub_IR_IM _ _ => true
  | .sbc_r_r _ _ => true
  | .sbc_r_Ir _ _ => true
  | .sbc_R_R _ _ => true
  | .sbc_R_IR _ _ => true
  | .sbc_R_IM _ _ => true
  | .sbc_IR_IM _ _ => true
  | .or_r_r _ _ => true
  | .or_r_Ir _ _ => true
  | .or_R_R _ _ => true
  | .or_R_IR _ _ => true
  | .or_R_IM _ _ => true
  | .or_IR_IM _ _ => true
  | .and_r_r _ _ => true
  | .and_r_Ir _ _ => true
  | .and_R_R _ _ => true
  | .and_R_IR _ _ => true
  | .and_R_IM _ _ => true
  | .and_IR_IM _ _ => true
  | .tcm_r_r _ _ => true
  | .tcm_r_Ir _ _ => true
  | .tcm_R_R _ _ => true
  | .tcm_R_IR _ _ => true
  | .tcm_R_IM _ _ => true
  | .tcm_IR_IM _ _ => true
  | .tm_r_r _ _ => true
  | .tm_r_Ir _ _ => true
  | .tm_R_R _ _ => true
  | .tm_R_IR _ _ => true
  | .tm_R_IM _ _ => true
  | .tm_IR_IM _ _ => true
  | .cp_r_r _ _ => true
  | .cp_r_Ir _ _ => true
  | .cp_R_R _ _ => true
  | .cp_R_IR _ _ => true
  | .cp_R_IM _ _ => true
  | .cp_IR_IM _ _ => true
  | .xor_r_r _ _ => true
  | .xor_r_Ir _ _ => true
  | .xor_R_R _ _ => true
  | .xor_R_IR _ _ => true
  | .xor_R_IM _ _ => true
  | .xor_IR_IM _ _ => true
  | .dec_R _ => true
  | .dec_IR _ => true
  | .rlc_R _ => true
  | .rlc_IR _ => true
  | .inc_R _ => true
  | .inc_IR _ => true
  | .da_R _ => true
  | .da_IR _ => true
  | .pop_R _ => true
  | .pop_IR _ => true
  | .com_R _ => true
  | .com_IR _ => true
  | .push_R _ => true
  | .push_IR _ => true
  | .decw_RR b => evenByte b
  | .decw_IR _ => true
  | .rl_R _ => true
  | .rl_IR _ => true
  | .incw_RR b => evenByte b
  | .incw_IR _ => true
  | .clr_R _ => true
  | .clr_IR _ => true
  | .rrc_R _ => true
  | .rrc_IR _ => true
  | .sra_R _ => true
  | .sra_IR _ => true
  | .rr_R _ => true
  | .rr_IR _ => true
  | .swap_R _ => true
  | .swap_IR _ => true
  | .jp_IRR b => evenByte b
  | .srp_IM _ => true
  | .ldc_r_Irr _ p => evenPair p
  | .ldci_Ir_Irr _ p => evenPair p
  | .ld_r_X _ _ _ => true
  | .ldc_Irr_r hi lo => evenPair (pairNibble order hi lo)
  | .ldci_Irr_Ir hi lo => evenPair (pairNibble order hi lo)
  | .call_IRR b => evenByte b
  | .call_DA _ => true
  | .ld_X_r _ _ _ => true
  | .ld_r_Ir _ _ => true
  | .ld_R_R _ _ => true
  | .ld_R_IR _ _ => true
  | .ld_R_IM _ _ => true
  | .ld_IR_IM _ _ => true
  | .ld_Ir_r _ _ => true
  | .ld_IR_R _ _ => true
  | .wdt => true
  | .stop => true
  | .halt => true
  | .di => true
  | .ei => true
  | .ret => true
  | .iret => true
  | .rcf => true
  | .scf => true
  | .ccf => true
  | .nop => true
  | .ld_r_R _ _ => true
  | .ld_R_r _ _ => true
  | .djnz_r_RA _ _ => true
  | .jr_cc_RA _ _ => true
  | .ld_r_IM _ _ => true
  | .jp_cc_DA _ _ => true
  | .inc_r _ => true
  | .reserved_0F => true
  | .reserved_1F => true
  | .reserved_2F => true
  | .reserved_3F => true
  | .reserved_4F => true
  | .reserved_82 => true
  | .reserved_83 => true
  | .reserved_84 => true
  | .reserved_85 => true
  | .reserved_86 => true
  | .reserved_87 => true
  | .reserved_92 => true
  | .reserved_93 => true
  | .reserved_94 => true
  | .reserved_95 => true
  | .reserved_96 => true
  | .reserved_97 => true
  | .reserved_C4 => true
  | .reserved_C5 => true
  | .reserved_C6 => true
  | .reserved_D5 => true
  | .reserved_E2 => true
  | .reserved_F2 => true
  | .reserved_F4 => true
  | .reserved_F6 => true
  | .reserved_F7 => true

end Sys2Proof
end

