-- ==== Sys2Proof/Certificates/Slice0/Obligations.lean ====
section
/-! DEFINITION. The statements for the provers. In each, `s` is the state before and `t` the state after; a statement about
a state holds for every device that the state may carry. -/

open Sys2Proof Sys2Proof.Machine

/-! ## Encoding -/

/-- 30_encoding.md R91, R93, R95, R100: no bit of an encoding is dropped. -/
def Obligations.DecodeAfterEncode : Prop :=
  ∀ (i : Instr) (rest : List Byte), decode (encode i ++ rest) = .ok (i, rest)

/-- 30_encoding.md R90, R92: what was decoded is exactly the bytes of its encoding, so no two byte strings decode to
one instruction. -/
def Obligations.EncodeAfterDecode : Prop :=
  ∀ (bs : List Byte) (i : Instr) (rest : List Byte), decode bs = .ok (i, rest) → bs = encode i ++ rest

/-- Words written out from the op code map: the examples of 41_arithmetic.md R171, R172, 40_load.md R146, R155,
43_program_control.md R211 to R213, R217, 45_block_transfer.md R242, 47_cpu_control.md R278. -/
def Obligations.SampleWordsDecode : Prop :=
  decode [0x13#8, 0x12#8] = .ok (.adc_r_Ir 1#4 2#4, []) ∧
  decode [0x04#8, 0x08#8, 0x43#8] = .ok (.add_R_R 0x43#8 0x08#8, []) ∧
  decode [0xD7#8, 0x12#8, 0x40#8] = .ok (.ld_X_r 1#4 2#4 0x40#8, []) ∧
  decode [0xC2#8, 0x12#8] = .ok (.ldc_r_Irr 1#4 2#4, []) ∧
  decode [0xD6#8, 0x01#8, 0x23#8] = .ok (.call_DA 0x0123#16, []) ∧
  decode [0xD4#8, 0xE4#8, 0xFF#8] = .ok (.call_IRR 0xE4#8, [0xFF#8]) ∧
  decode [0x2A#8, 0xFC#8] = .ok (.djnz_r_RA 2#4 0xFC#8, []) ∧
  decode [0x6B#8, 0x0E#8] = .ok (.jr_cc_RA .z 0x0E#8, []) ∧
  decode [0xD3#8, 0x21#8] = .ok (.ldci_Irr_Ir 2#4 1#4, []) ∧
  decode [0x31#8, 0x20#8] = .ok (.srp_IM 0x20#8, [])

/-- 30_encoding.md R101, R105: no first byte faults; the first byte alone decides how many bytes are taken, and the 26
reserved values are exactly those of R105. Then R93: the operand bytes of the two-operand group, in the object code's
order; and those of the one-operand group, the register byte alone (R100). The op codes of both groups stand with what
their instructions do. -/
def Obligations.EveryFirstByteDecodes : Prop :=
  (∀ b1 b2 b3 : Byte, ∃ i, decode [b1, b2, b3] = .ok (i, [b1, b2, b3].drop (opLength b1)) ∧
    (b1 ∈ reservedOpcodes ↔ (b1, i) ∈ reservedInstrs)) ∧
  reservedOpcodes.length = 26 ∧ reservedOpcodes.Nodup ∧
  (∀ f : TwoForm,
    ∀ i ∈ [addInstr f, adcInstr f, subInstr f, sbcInstr f, orInstr f, andInstr f, tcmInstr f, tmInstr f, cpInstr f,
      xorInstr f],
      (encode i).tail = match f with
        | .r_r dst src => [dst ++ src]
        | .r_Ir dst src => [dst ++ src]
        | .R_R dst src => [src, dst]
        | .R_IR dst src => [src, dst]
        | .R_IM dst imm => [dst, imm]
        | .IR_IM dst imm => [dst, imm]) ∧
  (∀ f : OneForm,
    ∀ i ∈ [decInstr f, rlcInstr f, daInstr f, popInstr f, comInstr f, pushInstr f, decwInstr f, rlInstr f, incwInstr f,
      rrcInstr f, sraInstr f, rrInstr f, swapInstr f],
      (encode i).tail = match f with
        | .R b => [b]
        | .IR b => [b])

/-- 10_state.md R22, R23, R30, R31, R41, 30_encoding.md R96: where a working register, an operand byte, a pair and the
control registers are, and which bit of FLAGS each flag is. 30_encoding.md R97, 40_load.md R145, R146: the cell that each
operand form names; pointer contents are absolute addresses, and neither the base of an indexed operand nor the sum goes
through the E escape. That the sum is taken modulo 2^8 without an escape is the spec's own decision (logs 23, 40). -/
def Obligations.RegisterNames : Prop :=
  (∀ (s : State) (n : Nibble), s.wr n = (s.reg 0xFD#8 &&& 0xF0#8) ||| n.setWidth 8) ∧
  (∀ (s : State) (b : Byte), s.reg8 b = if b &&& 0xF0#8 = 0xE0#8 then s.wr (b.extractLsb' 0 4) else b) ∧
  (∀ (s : State) (a : Byte), (s.pair a).toNat = 256 * (s.reg a).toNat + (s.reg (a + 1)).toNat) ∧
  (∀ s : State, s.flags = s.reg 0xFC#8 ∧ s.imr = s.reg 0xFB#8 ∧ s.sp = s.reg s.dev.spAddr) ∧
  (∀ c z n v d h w m : Bool, (packFlags c z n v d h w m).toNat =
    128 * c.toNat + 64 * z.toNat + 32 * n.toNat + 16 * v.toNat + 8 * d.toNat + 4 * h.toNat + 2 * w.toNat + m.toNat) ∧
  (∀ f : Byte, f.toNat =
    128 * (flagC f).toNat + 64 * (flagZ f).toNat + 32 * (flagS f).toNat + 16 * (flagV f).toNat + 8 * (flagD f).toNat +
      4 * (flagH f).toNat + 2 * (flagWdt f).toNat + (flagSmr f).toNat) ∧
  (∀ (s : State) (n : Nibble) (b base : Byte),
    (Loc.r n).address s = s.wr n ∧ (Loc.R b).address s = s.reg8 b ∧ (Loc.Ir n).address s = s.reg (s.wr n) ∧
      (Loc.IR b).address s = s.reg (s.reg8 b) ∧
      ((Loc.X base n).address s).toNat = (base.toNat + (s.reg (s.wr n)).toNat) % 256) ∧
  (∀ (s : State) (l : Loc) (v : Byte), (Src.loc l).value s = s.plain 0 (l.address s) ∧ (Src.im v).value s = v)

/-- 30_encoding.md R110: the sixteen conditions as functions of C, Z, S, V; bit 3 of the code negates. -/
def Obligations.ConditionCodes : Prop :=
  (∀ (n : Nibble) (f : Byte),
    condHolds (Cond.ofBits (n ^^^ 8#4)) f = !condHolds (Cond.ofBits n) f) ∧
  (∀ c z n v d h w m : Bool,
    let f := packFlags c z n v d h w m
    condHolds (Cond.ofBits 0x0#4) f = false ∧ condHolds (Cond.ofBits 0x1#4) f = (n ^^ v) ∧
      condHolds (Cond.ofBits 0x2#4) f = (z || (n ^^ v)) ∧ condHolds (Cond.ofBits 0x3#4) f = (c || z) ∧
      condHolds (Cond.ofBits 0x4#4) f = v ∧ condHolds (Cond.ofBits 0x5#4) f = n ∧
      condHolds (Cond.ofBits 0x6#4) f = z ∧ condHolds (Cond.ofBits 0x7#4) f = c)

/-! ## Reset and invariants -/

/-- What 10_state.md R47 and 70_reset_and_hazards.md R343 give the machine after power-on, and the canonical form.
Four clauses are the model's choice and no value of R47: no program byte is loaded (log 5; R47 and R343 have the
program image there), the device is the default one (log 6), the pc is that device's `RESET_PC` (log 7), and the run has
not ended (log 35). -/
def Obligations.ResetState : Prop :=
  flagWdt State.reset.flags = false ∧ flagSmr State.reset.flags = false ∧ masterEnable State.reset.imr = false ∧
    State.reset.pending = [] ∧ State.reset.mode = .running ∧ State.reset.pc = State.reset.dev.resetPc ∧
    (∀ a, State.reset.progByte a = none) ∧ State.reset.emitted = [] ∧ State.reset.ended = false ∧
    State.reset.dev = Device.default ∧ State.reset.dev.wf ∧ State.reset.wf

/-- The memories stay in their canonical form and `pending` stays a set of sources of `IRQ`
(10_state.md R45, R46, 60_exceptions.md R303), whatever the step. -/
def Obligations.StepKeepsWellFormed : Prop :=
  ∀ s t : State, s.wf → step s = .next t → t.wf

/-- 00_scope.md R6: "Every parameter is fixed for a whole run of the model; none changes during execution." A step of
a run that has not ended takes one entry of the environment's script and counts at most one instruction; a run ends
only at `END_PC`, before the fetch there (70_reset_and_hazards.md R352). The model's choices: that a run which has ended
stays as it is (log 35), the script (log 18) and the counts (logs 14, 20). -/
def Obligations.StepKeepsDevice : Prop :=
  ∀ s t : State, step s = .next t →
    t.dev = s.dev ∧ s.executed ≤ t.executed ∧ t.executed ≤ s.executed + 1 ∧
      s.emitted <+: t.emitted ∧ t.sinceRefresh ≤ s.sinceRefresh + 1 ∧
      (s.ended = true → t = s) ∧
      (s.ended = false → t.script = s.script.tail ∧
        (t.ended = true → s.dev.endPc = some t.pc ∧ t.mode = .running ∧ SameMachine s t))

/-! ## The step -/

/-- The step runs the decoded instruction; all it adds is the count of instructions (logs 14, 20), and it takes the
script's entry, at which the environment does nothing. Then 10_state.md R29: where an instruction does not write pc
itself, pc moves past the bytes of its encoding; the last clause has the lengths of those that may write it, which
43_program_control.md's rules use for the address of the next instruction. -/
def Obligations.StepRunsDecodedInstruction : Prop :=
  (∀ (s : State) (bs rest : List Byte) (i : Instr), s.undisturbed → s.holds s.pc bs → decode bs = .ok (i, rest) →
    step s = exec i (State.countInstruction { s with script := s.script.tail })) ∧
  (∀ (i : Instr) (s t : State), exec i s = .next t → mayWritePc i ∨ t.pc = s.pc + BitVec.ofNat 16 (encode i).length) ∧
  (∀ (n : Nibble) (b : Byte) (w : Word) (cc : Cond),
    (encode (.call_DA w)).length = 3 ∧ (encode (.call_IRR b)).length = 2 ∧ (encode (.djnz_r_RA n b)).length = 2 ∧
      (encode .iret).length = 1 ∧ (encode (.jp_cc_DA cc w)).length = 3 ∧ (encode (.jp_IRR b)).length = 2 ∧
      (encode (.jr_cc_RA cc b)).length = 2 ∧ (encode .ret).length = 1)

/-- 20_memory.md R64, 30_encoding.md R120: when the bytes loaded from pc on are not yet a whole instruction, be it that
the op code or that an operand byte is missing, a fetch at an absent address is refused. The fault at a byte that
nothing has loaded is the model's (log 5). -/
def Obligations.FetchStops : Prop :=
  ∀ (s : State) (bs : List Byte), s.undisturbed → s.holds s.pc bs → (∃ e, decode bs = .error e) →
    let a := s.pc + BitVec.ofNat 16 bs.length
    (hasProgram s.dev a = false → step s = .refused .absentProgram) ∧
    (hasProgram s.dev a = true → s.progByte a = none → step s = .fault .unprogrammed)

/-- 70_reset_and_hazards.md R353, 60_exceptions.md R303, R305, R310, R324: what happens at a boundary. Requests and
withdrawals change `pending` alone. Of the restarts given at once the first of RESET pin, watch-dog timeout and
stop-mode recovery is delivered and the others are dropped; a timeout is delivered only when `WDT_PERIOD` is finite and
at least that long has passed, and a recovery only in `Stopped`. Without a restart the interrupt check follows, and then
an instruction, the end of the run at `END_PC` (R352), or nothing. The model's choices: one entry of the script for
each boundary, and a due timeout comes of itself unless held (log 18); a recovery outside `Stopped` has no effect
(log 19); what counts as passed time (log 20); whether the watch-dog runs in STOP (log 41); a request that names no
source has no effect (log 42). -/
def Obligations.StepDeliversEvents : Prop :=
  (∀ s : State, SameMachine s s.arrive ∧ s.arrive.script = s.script.tail ∧ s.arrive.sinceRefresh = s.sinceRefresh ∧
    s.arrive.ended = s.ended ∧ s.arrive.pending = (s.latch s.boundary.requests).pending) ∧
  (∀ (s : State) (n m : Nat), (m ∈ (s.latch [.request n]).pending ↔ (m = n ∧ isSource s.dev n = true) ∨ m ∈ s.pending) ∧
    (m ∈ (s.latch [.withdraw n]).pending ↔ m ≠ n ∧ m ∈ s.pending) ∧ (s.latch []).pending = s.pending) ∧
  (∀ (s : State) (xs ys : List LineEvent), s.latch (xs ++ ys) = (s.latch xs).latch ys) ∧
  (∀ s : State, s.wdtDue = true ↔ ∃ period, s.dev.wdtPeriod = some period ∧ period ≤ s.sinceRefresh ∧
    (s.mode = .stopped → s.dev.wdtInStop = true)) ∧
  (∀ s : State, s.ended = false → s.boundary.resetPin = true → step s = .next s.arrive.resetPin) ∧
  (∀ s : State, s.ended = false → s.boundary.resetPin = false → s.wdtDue = true → s.boundary.wdtHeld = false →
    step s = s.arrive.wdtTimeout) ∧
  (∀ s : State, s.ended = false → s.boundary.resetPin = false → (s.wdtDue = false ∨ s.boundary.wdtHeld = true) →
    s.boundary.stopRecovery = true → s.mode = .stopped → step s = .next s.arrive.stopRecovery) ∧
  (∀ s : State, s.ended = false → s.noRestart →
    (∀ src, s.arrive.interruptDue = some src → step s = s.arrive.takeInterrupt src) ∧
    (s.arrive.interruptDue = none →
      (s.mode ≠ .running → ∃ t, step s = .next t ∧ SameMachine s t ∧ t.pending = s.arrive.pending ∧ t.ended = false ∧
        t.sinceRefresh = s.sinceRefresh +
          if s.dev.wdtPeriod ≠ none ∧ (s.mode = .stopped → s.dev.wdtInStop = true) then 1 else 0) ∧
      (s.mode = .running → s.dev.endPc = some s.pc → step s = .next { s.arrive with ended := true }) ∧
      (s.mode = .running → s.dev.endPc ≠ some s.pc → step s = s.arrive.runInstruction)))

/-- 70_reset_and_hazards.md R352: the three ends of a run that have a result. A quiescent halt and a quiescent stop
stay what they are, whatever else the environment does, and nothing a program can see changes; so does a run that has
ended at `END_PC`. The result of a quiescent stop has SMRF = 1: every step keeps that a stopped machine has it. R352 is
the spec's own convention (its decision D30). The model's choices: that every later step leaves a run that has ended at
`END_PC` as it is (log 35), and that the device says whether the watch-dog runs in STOP (log 41). -/
def Obligations.QuiescentStatesStay : Prop :=
  (∀ s : State, s.quiescentHalt → ∃ t, step s = .next t ∧ t.quiescentHalt ∧ SameMachine s t) ∧
  (∀ s : State, s.quiescentStop → ∃ t, step s = .next t ∧ t.quiescentStop ∧ SameMachine s t) ∧
  (∀ s : State, s.mode = .running → s.boundary = {} → s.wdtDue = false → s.interruptDue = none →
    s.dev.endPc = some s.pc → ∃ t, step s = .next t ∧ SameMachine s t ∧ t.pending = s.pending ∧ t.ended = true ∧
      step t = .next t) ∧
  (∀ s t : State, (s.mode = .stopped → flagSmr s.flags = true) → step s = .next t →
    (t.mode = .stopped → flagSmr t.flags = true))

/-! ## Interrupts and restarts -/

/-- 60_exceptions.md R303, R305, R306, R310: which source the check takes, if any, and that it is then taken. -/
def Obligations.InterruptCheck : Prop :=
  (∀ s : State, masterEnable s.imr = false ∨ s.mode = .stopped → s.interruptDue = none) ∧
  (∀ (s : State) (src : IrqSource), s.interruptDue = some src →
    src ∈ s.dev.irq ∧ src.name ∈ s.pending ∧ masterEnable s.imr = true ∧ irqEnabled src.enable s.imr = true ∧
      s.mode ≠ .stopped ∧
      ∀ x ∈ s.dev.irq, x.name ∈ s.pending → irqEnabled x.enable s.imr = true → x.rank ≤ src.rank) ∧
  (∀ s : State, s.mode ≠ .stopped → s.interruptDue = none →
    ∀ x ∈ s.dev.irq, ¬(x.name ∈ s.pending ∧ masterEnable s.imr = true ∧ irqEnabled x.enable s.imr = true)) ∧
  (∀ (s : State) (src : IrqSource), s.ended = false → s.boundary = {} → s.wdtDue = false → s.interruptDue = some src →
    step s = State.interruptEntry
      { s with script := s.script.tail, pending := s.pending.filter (· ≠ src.name), mode := .running } src.handler)

/-- 60_exceptions.md R307 to R309, 20_memory.md R62: the frame, the new SP, IMR(7) and pc of interrupt entry, and every
other register and field as before. `stacked` is the register file after the two PC bytes are stored; where a stack
cell is FLAGS or IMR itself the accesses happen in the order of the pseudocode (20_memory.md R72). With a stack cell that
may not be used, entry is refused (R313, 10_state.md R24, R43, 20_memory.md R69). Where the stack may be used, a vectored
entry is refused at an absent vector byte (20_memory.md R64); the fault at one that nothing has loaded is the model's
(log 5), and so is that the byte at the lower address is read first (log 36). -/
def Obligations.InterruptEntryFrame : Prop :=
  (∀ (s : State) (h : IrqHandler) (target : Word), s.dev.wf →
    s.stackCell (s.sp - 1) → s.stackCell (s.sp - 2) → s.stackCell (s.sp - 3) →
    (match h with
      | .fixed a => target = a
      | .vectored v => ∃ hi lo, s.loaded v hi ∧ s.loaded (v + 1) lo ∧ target = hi ++ lo) →
    let stacked := fun a : Byte =>
      if a = s.sp - 2 then s.pc.extractLsb' 8 8 else if a = s.sp - 1 then s.pc.extractLsb' 0 8 else s.reg a
    let framed := fun a : Byte => if a = s.sp - 3 then stacked flagsAddr else stacked a
    ∃ t, s.interruptEntry h = .next t ∧ t.pc = target ∧
      (∀ a, t.reg a =
        if a = s.dev.spAddr then s.sp - 3 else if a = imrAddr then framed imrAddr &&& 0x7F#8 else framed a) ∧
      (∀ a, t.progByte a = s.progByte a) ∧ SameRest s t) ∧
  (∀ (s : State) (h : IrqHandler), ¬(s.stackCell (s.sp - 1) ∧ s.stackCell (s.sp - 2) ∧ s.stackCell (s.sp - 3)) →
    ∃ r ∈ [Refusal.stackOnSp, .absentRegister, .deviceRegister], s.interruptEntry h = .refused r) ∧
  (∀ (s : State) (v : Word), s.stackCell (s.sp - 1) → s.stackCell (s.sp - 2) → s.stackCell (s.sp - 3) →
    (hasProgram s.dev v = false → s.interruptEntry (.vectored v) = .refused .absentProgram) ∧
    (hasProgram s.dev v = true → s.progByte v = none → s.interruptEntry (.vectored v) = .fault .unprogrammed) ∧
    (∀ hi, s.loaded v hi →
      (hasProgram s.dev (v + 1) = false → s.interruptEntry (.vectored v) = .refused .absentProgram) ∧
      (hasProgram s.dev (v + 1) = true → s.progByte (v + 1) = none →
        s.interruptEntry (.vectored v) = .fault .unprogrammed)))

/-- 43_program_control.md R214: FLAGS, pc, SP and IMR(7) after IRET, and every other register and field as before.
`popped` is the register file after FLAGS is written; where a stack cell is FLAGS itself the accesses happen in the
order of the pseudocode (20_memory.md R72). With a stack cell that may not be used it is refused (10_state.md R24, R43,
20_memory.md R69). -/
def Obligations.IretResult : Prop :=
  (∀ s : State, s.dev.wf → s.stackCell s.sp → s.stackCell (s.sp + 1) → s.stackCell (s.sp + 2) →
    let popped := fun a : Byte => if a = flagsAddr then s.reg s.sp else s.reg a
    ∃ t, exec .iret s = .next t ∧ t.pc = popped (s.sp + 1) ++ popped (s.sp + 2) ∧
      (∀ a, t.reg a =
        if a = s.dev.spAddr then s.sp + 3 else if a = imrAddr then s.imr ||| 0x80#8 else popped a) ∧
      (∀ a, t.progByte a = s.progByte a) ∧ SameRest s t ∧ encode .iret = [0xBF#8]) ∧
  (∀ s : State, ¬(s.stackCell s.sp ∧ s.stackCell (s.sp + 1) ∧ s.stackCell (s.sp + 2)) →
    Refuses .iret s [.stackOnSp, .absentRegister, .deviceRegister])

/-- 60_exceptions.md R307, 43_program_control.md R214: "IRET is the exact inverse of interrupt entry", when the frame
lies on no register that the two use themselves. -/
def Obligations.IretUndoesEntry : Prop :=
  ∀ (s t : State) (h : IrqHandler), s.dev.wf → s.interruptEntry h = .next t →
    (∀ a ∈ [s.sp - 1, s.sp - 2, s.sp - 3], a ≠ flagsAddr ∧ a ≠ imrAddr) →
    ∃ u, exec .iret t = .next u ∧ u.pc = s.pc ∧ u.flags = s.flags ∧ u.sp = s.sp ∧ u.imr = s.imr ||| 0x80#8 ∧
      (∀ a, a ∉ [s.sp - 1, s.sp - 2, s.sp - 3, imrAddr] → u.reg a = s.reg a) ∧
      (∀ a, u.progByte a = s.progByte a) ∧ SameRest s u

/-- 70_reset_and_hazards.md R340, R341, 60_exceptions.md R323, R324: the three restart causes. What RP, SP and IMR(6:0)
hold afterwards is left out (log 4). That the watch-dog's count starts again is log 20. -/
def Obligations.RestartCauses : Prop :=
  let restarted := fun (s t : State) (flags : Byte) =>
    t.flags = flags ∧ masterEnable t.imr = false ∧ t.pending = [] ∧ t.mode = .running ∧ t.pc = s.dev.resetPc ∧
      (∀ a, a ∉ [imrAddr, flagsAddr, rpAddr, s.dev.spAddr] → t.reg a = s.reg a) ∧
      (∀ a, t.progByte a = s.progByte a) ∧ t.dev = s.dev ∧ t.script = s.script ∧ t.emitted = s.emitted ∧
      t.executed = s.executed ∧ t.sinceRefresh = 0
  (∀ s : State, s.dev.wf → restarted s s.resetPin (s.flags &&& 0xFC#8)) ∧
  (∀ s : State, s.dev.wf → flagWdt s.flags = false →
    ∃ t, s.wdtTimeout = .next t ∧ restarted s t (s.flags ||| 0x02#8)) ∧
  (∀ s : State, flagWdt s.flags = true → s.wdtTimeout = .refused .staleTimeout) ∧
  (∀ s : State, s.dev.wf → s.mode = .stopped → restarted s s.stopRecovery s.flags)

/-- 60_exceptions.md R323, R328: a stopped machine stays as it is, but for requests that arrive, or restarts, and then
by one of the three causes. Whether the watch-dog runs in stop mode is the device's (log 41). -/
def Obligations.LeavingStopped : Prop :=
  ∀ s t : State, s.dev.wf → s.mode = .stopped → step s = .next t →
    (∀ a, t.progByte a = s.progByte a) ∧
    ((t.mode = .stopped ∧ t.pc = s.pc ∧ ∀ a, t.reg a = s.reg a) ∨
      (t.mode = .running ∧ t.pc = s.dev.resetPc ∧ t.pending = [] ∧ masterEnable t.imr = false ∧
        (∀ a, a ∉ [imrAddr, flagsAddr, rpAddr, s.dev.spAddr] → t.reg a = s.reg a) ∧
        (s.boundary.resetPin = true ∨ (s.dev.wdtPeriod ≠ none ∧ s.dev.wdtInStop = true) ∨
          s.boundary.stopRecovery = true)))

/-- 60_exceptions.md R322, R328, 47_cpu_control.md R274: a halted machine stays as it is, restarts by the RESET pin or a
watch-dog timeout, or takes an interrupt; with IMR(7) = 0 it does not take one. -/
def Obligations.LeavingHalted : Prop :=
  ∀ s t : State, s.dev.wf → s.mode = .halted → step s = .next t →
    (t.mode = .halted ∧ t.pc = s.pc ∧ ∀ a, t.reg a = s.reg a) ∨
    (t.mode = .running ∧ t.pc = s.dev.resetPc ∧ t.pending = [] ∧ masterEnable t.imr = false ∧
      (∀ a, a ∉ [imrAddr, flagsAddr, rpAddr, s.dev.spAddr] → t.reg a = s.reg a) ∧
      (s.boundary.resetPin = true ∨ s.wdtDue = true)) ∨
    (t.mode = .running ∧ masterEnable s.imr = true ∧ t.sp = s.sp - 3 ∧
      ∃ src ∈ s.dev.irq, src.name ∈ s.arrive.pending ∧ irqEnabled src.enable s.imr = true ∧
        t.pending = s.arrive.pending.filter (· ≠ src.name))

/-! ## Arithmetic -/

/-- 41_arithmetic.md R172, R171: ADD and ADC. `cin` is 0 for ADD and C for ADC. -/
def Obligations.AddAndAdc : Prop :=
  ∀ (f : TwoForm) (s : State), f.src.readable s → f.dst.rewritable s →
    let d := f.dst.address s
    let a := s.reg d
    let b := f.src.value s
    let after := fun (cin : Bool) (t : State) =>
      let res := a + b + BitVec.ofNat 8 cin.toNat
      t.pc = s.pc + f.length ∧ t.reg d = res ∧
        t.flags = packFlags (decide (a.toNat + b.toNat + cin.toNat > 255)) (decide (res = 0#8)) (res.getLsbD 7)
          (((a ^^^ res) &&& (b ^^^ res)).getLsbD 7) false (decide (a.toNat % 16 + b.toNat % 16 + cin.toNat > 15))
          (flagWdt s.flags) (flagSmr s.flags) ∧
        (flagV t.flags = true ↔
          a.toInt + b.toInt + cin.toNat > 127 ∨ a.toInt + b.toInt + cin.toNat < -128) ∧
        SameBut s t [d, flagsAddr]
    (∃ t, exec (addInstr f) s = .next t ∧ after false t) ∧ (∃ t, exec (adcInstr f) s = .next t ∧ after (flagC s.flags) t) ∧
      (encode (addInstr f)).head? = some (0x0#4 ++ f.column) ∧ (encode (adcInstr f)).head? = some (0x1#4 ++ f.column)

/-- 41_arithmetic.md R180, R179: SUB and SBC. `cin` is 0 for SUB and C for SBC. -/
def Obligations.SubAndSbc : Prop :=
  ∀ (f : TwoForm) (s : State), f.src.readable s → f.dst.rewritable s →
    let d := f.dst.address s
    let a := s.reg d
    let b := f.src.value s
    let after := fun (cin : Bool) (t : State) =>
      let res := a - b - BitVec.ofNat 8 cin.toNat
      t.pc = s.pc + f.length ∧ t.reg d = res ∧
        t.flags = packFlags (decide (a.toNat < b.toNat + cin.toNat)) (decide (res = 0#8)) (res.getLsbD 7)
          (((a ^^^ b) &&& (a ^^^ res)).getLsbD 7) true (decide (a.toNat % 16 < b.toNat % 16 + cin.toNat))
          (flagWdt s.flags) (flagSmr s.flags) ∧
        (flagV t.flags = true ↔
          a.toInt - b.toInt - cin.toNat > 127 ∨ a.toInt - b.toInt - cin.toNat < -128) ∧
        SameBut s t [d, flagsAddr]
    (∃ t, exec (subInstr f) s = .next t ∧ after false t) ∧ (∃ t, exec (sbcInstr f) s = .next t ∧ after (flagC s.flags) t) ∧
      (encode (subInstr f)).head? = some (0x2#4 ++ f.column) ∧ (encode (sbcInstr f)).head? = some (0x3#4 ++ f.column)

/-- 41_arithmetic.md R173: CP writes C, Z, S, V only, and the condition codes then read as relations between its
operands (30_encoding.md R110). FLAGS may be the destination operand. The second clause is not R173's: with an operand
that may not be read it is refused (10_state.md R24, 20_memory.md R69, the spec's decisions D26 and D2; log 21). -/
def Obligations.CompareAndConditions : Prop :=
  (∀ (f : TwoForm) (s : State), f.src.readable s → f.dst.accessible s →
    let a := s.plain 1 (f.dst.address s)
    let b := f.src.value s
    let res := a - b
    ∃ t, exec (cpInstr f) s = .next t ∧ t.pc = s.pc + f.length ∧ SameBut s t [flagsAddr] ∧
      (encode (cpInstr f)).head? = some (0xA#4 ++ f.column) ∧
      t.flags = packFlags (decide (a.toNat < b.toNat)) (decide (res = 0#8)) (res.getLsbD 7)
        (decide (a.toInt - b.toInt > 127 ∨ a.toInt - b.toInt < -128)) (flagD s.flags) (flagH s.flags)
        (flagWdt s.flags) (flagSmr s.flags) ∧
      (condHolds .z t.flags = true ↔ a = b) ∧ (condHolds .nz t.flags = true ↔ a ≠ b) ∧
      (condHolds .c t.flags = true ↔ a.toNat < b.toNat) ∧ (condHolds .nc t.flags = true ↔ a.toNat ≥ b.toNat) ∧
      (condHolds .ugt t.flags = true ↔ a.toNat > b.toNat) ∧ (condHolds .ule t.flags = true ↔ a.toNat ≤ b.toNat) ∧
      (condHolds .lt t.flags = true ↔ a.toInt < b.toInt) ∧ (condHolds .ge t.flags = true ↔ a.toInt ≥ b.toInt) ∧
      (condHolds .gt t.flags = true ↔ a.toInt > b.toInt) ∧ (condHolds .le t.flags = true ↔ a.toInt ≤ b.toInt)) ∧
  (∀ (f : TwoForm) (s : State), ¬(f.src.readable s ∧ f.dst.accessible s) →
    Refuses (cpInstr f) s [.absentRegister, .deviceRegister])

/-- 41_arithmetic.md R174: DA by `DA_FN`: the algorithm of R174, or a free function of the device. -/
def Obligations.DecimalAdjust : Prop :=
  ∀ (f : OneForm) (s : State), f.loc.rewritable s →
    let d := f.loc.address s
    let v := s.reg d
    let c := flagC s.flags
    let h := flagH s.flags
    let adjusted := fun (r : Byte × Bool) (t : State) =>
      t.reg d = r.1 ∧ t.flags = packFlags r.2 (decide (r.1 = 0#8)) (r.1.getLsbD 7) (flagV s.flags) (flagD s.flags) h
        (flagWdt s.flags) (flagSmr s.flags)
    ∃ t, exec (daInstr f) s = .next t ∧ t.pc = s.pc + 2 ∧ SameBut s t [d, flagsAddr] ∧
      (encode (daInstr f)).head? = some (0x4#4 ++ f.column) ∧
      (s.dev.daFn = .free → adjusted (Config.daFn v c h (flagD s.flags)) t) ∧
      (s.dev.daFn = .family → flagD s.flags = false →
        let low := if h = true ∨ v.toNat % 16 > 9 then 0x06 else 0
        let high := if c = true ∨ v.toNat > 0x99 then 0x60 else 0
        adjusted (BitVec.ofNat 8 (v.toNat + low + high), decide (high = 0x60)) t) ∧
      (s.dev.daFn = .family → flagD s.flags = true →
        let adj := (if h = true then 0xFA else 0) + (if c = true then 0xA0 else 0)
        adjusted (BitVec.ofNat 8 (v.toNat + adj), c) t)

/-- The thirteen rows of the table of 41_arithmetic.md R174. -/
def Obligations.DecimalAdjustTable : Prop :=
  let row := fun (d c : Bool) (hiFrom hiTo : Nat) (h : Bool) (loFrom loTo : Nat) (added : Byte) (cAfter : Bool) =>
    ∀ v : Byte, hiFrom ≤ v.toNat / 16 → v.toNat / 16 ≤ hiTo → loFrom ≤ v.toNat % 16 → v.toNat % 16 ≤ loTo →
      daFamily v c h d = (v + added, cAfter)
  row false false 0x0 0x9 false 0x0 0x9 0x00#8 false ∧ row false false 0x0 0x8 false 0xA 0xF 0x06#8 false ∧
    row false false 0x0 0x9 true 0x0 0x3 0x06#8 false ∧ row false false 0xA 0xF false 0x0 0x9 0x60#8 true ∧
    row false false 0x9 0xF false 0xA 0xF 0x66#8 true ∧ row false false 0xA 0xF true 0x0 0x3 0x66#8 true ∧
    row false true 0x0 0x2 false 0x0 0x9 0x60#8 true ∧ row false true 0x0 0x2 false 0xA 0xF 0x66#8 true ∧
    row false true 0x0 0x3 true 0x0 0x3 0x66#8 true ∧ row true false 0x0 0x9 false 0x0 0x9 0x00#8 false ∧
    row true false 0x0 0x8 true 0x6 0xF 0xFA#8 false ∧ row true true 0x7 0xF false 0x0 0x9 0xA0#8 true ∧
    row true true 0x6 0xF true 0x6 0xF 0x9A#8 true

/-- 10_state.md R36, R37, 41_arithmetic.md R174: an addition or subtraction of two packed-BCD bytes followed by DA on
the same register gives the decimal sum or difference, with the decimal carry or borrow in C. Of every form of the
two-operand group and both forms of DA, on a device whose `DA_FN` is the family's. -/
def Obligations.DecimalArithmetic : Prop :=
  ∀ (f : TwoForm) (g : OneForm) (s t : State),
    let d := f.dst.address s
    let a := s.reg d
    let b := f.src.value s
    let isBcd := fun x : Byte => x.toNat / 16 ≤ 9 ∧ x.toNat % 16 ≤ 9
    let decimal := fun x : Byte => 10 * (x.toNat / 16) + x.toNat % 16
    let cin := (flagC s.flags).toNat
    s.dev.daFn = .family → isBcd a → isBcd b → g.loc.rewritable t → g.loc.address t = d →
    ∀ u, exec (daInstr g) t = .next u →
      let carry := (flagC u.flags).toNat
      (exec (addInstr f) s = .next t → isBcd (u.reg d) ∧ decimal (u.reg d) + 100 * carry = decimal a + decimal b) ∧
      (exec (adcInstr f) s = .next t → isBcd (u.reg d) ∧ decimal (u.reg d) + 100 * carry = decimal a + decimal b + cin) ∧
      (exec (subInstr f) s = .next t → isBcd (u.reg d) ∧ decimal (u.reg d) + decimal b = decimal a + 100 * carry) ∧
      (exec (sbcInstr f) s = .next t →
        isBcd (u.reg d) ∧ decimal (u.reg d) + decimal b + cin = decimal a + 100 * carry)

/-- 41_arithmetic.md R177, R175: INC and DEC; C, D and H are not changed. -/
def Obligations.IncAndDec : Prop :=
  (∀ (f : IncForm) (s : State), f.loc.rewritable s →
    let d := f.loc.address s
    let res := s.reg d + 1
    ∃ t, exec (incInstr f) s = .next t ∧ t.pc = s.pc + f.length ∧ t.reg d = res ∧
      t.flags = packFlags (flagC s.flags) (decide (res = 0#8)) (res.getLsbD 7) (decide (s.reg d = 0x7F#8))
        (flagD s.flags) (flagH s.flags) (flagWdt s.flags) (flagSmr s.flags) ∧ SameBut s t [d, flagsAddr]) ∧
  (∀ (f : OneForm) (s : State), f.loc.rewritable s →
    let d := f.loc.address s
    let res := s.reg d - 1
    ∃ t, exec (decInstr f) s = .next t ∧ t.pc = s.pc + 2 ∧ t.reg d = res ∧
      t.flags = packFlags (flagC s.flags) (decide (res = 0#8)) (res.getLsbD 7) (decide (s.reg d = 0x80#8))
        (flagD s.flags) (flagH s.flags) (flagWdt s.flags) (flagSmr s.flags) ∧ SameBut s t [d, flagsAddr] ∧
      (encode (decInstr f)).head? = some (0x0#4 ++ f.column)) ∧
  (∀ n b, encode (incInstr (.r n)) = [n ++ 0xE#4] ∧ encode (incInstr (.R b)) = [0x20#8, b] ∧
    encode (incInstr (.IR b)) = [0x21#8, b])

/-- 41_arithmetic.md R178, R176: INCW and DECW on a pair, high byte at the even address (10_state.md R23). That Z, S
and V are judged on the 16-bit result is the spec's own decision (log 25). -/
def Obligations.IncwAndDecw : Prop :=
  ∀ (f : OneForm) (s : State), f.loc.pointerOk s → s.pairOk (f.loc.address s) → f.loc.address s ≠ flagsAddr →
    let d := f.loc.address s
    let a := s.reg d ++ s.reg (d + 1)
    let after := fun (res : Word) (v : Bool) (t : State) =>
      t.pc = s.pc + 2 ∧ t.reg d = res.extractLsb' 8 8 ∧ t.reg (d + 1) = res.extractLsb' 0 8 ∧
        t.flags = packFlags (flagC s.flags) (decide (res = 0#16)) (res.getLsbD 15) v
          (flagD s.flags) (flagH s.flags) (flagWdt s.flags) (flagSmr s.flags) ∧
        SameBut s t [d, d + 1, flagsAddr]
    (∃ t, exec (incwInstr f) s = .next t ∧ after (a + 1) (decide (a = 0x7FFF#16)) t) ∧
      (∃ t, exec (decwInstr f) s = .next t ∧ after (a - 1) (decide (a = 0x8000#16)) t) ∧
      (encode (incwInstr f)).head? = some (0xA#4 ++ f.column) ∧ (encode (decwInstr f)).head? = some (0x8#4 ++ f.column)

/-! ## Logical, bit manipulation, rotate and shift -/

/-- 42_logical.md R201, R203, R204: AND, OR and XOR. -/
def Obligations.LogicalTwoOperand : Prop :=
  ∀ (f : TwoForm) (s : State), f.src.readable s → f.dst.rewritable s →
    let d := f.dst.address s
    let a := s.reg d
    let b := f.src.value s
    let after := fun (res : Byte) (t : State) =>
      t.pc = s.pc + f.length ∧ t.reg d = res ∧
        t.flags = packFlags (flagC s.flags) (decide (res = 0#8)) (res.getLsbD 7) false (flagD s.flags) (flagH s.flags)
          (flagWdt s.flags) (flagSmr s.flags) ∧
        SameBut s t [d, flagsAddr]
    (∃ t, exec (andInstr f) s = .next t ∧ after (a &&& b) t) ∧ (∃ t, exec (orInstr f) s = .next t ∧ after (a ||| b) t) ∧
      (∃ t, exec (xorInstr f) s = .next t ∧ after (a ^^^ b) t) ∧
      (encode (andInstr f)).head? = some (0x5#4 ++ f.column) ∧ (encode (orInstr f)).head? = some (0x4#4 ++ f.column) ∧
      (encode (xorInstr f)).head? = some (0xB#4 ++ f.column)

/-- 44_bit_manipulation.md R231, R232: TCM and TM test and write no operand; FLAGS may be tested. Z says that every bit
the mask selects is 1 (TCM) or 0 (TM). The second clause is not theirs: with an operand that may not be read they are
refused (10_state.md R24, 20_memory.md R69, the spec's decisions D26 and D2; log 21). -/
def Obligations.TestUnderMask : Prop :=
  (∀ (f : TwoForm) (s : State), f.src.readable s → f.dst.accessible s →
    let a := s.plain 1 (f.dst.address s)
    let b := f.src.value s
    let after := fun (res : Byte) (t : State) =>
      t.pc = s.pc + f.length ∧
        t.flags = packFlags (flagC s.flags) (decide (res = 0#8)) (res.getLsbD 7) false (flagD s.flags) (flagH s.flags)
          (flagWdt s.flags) (flagSmr s.flags) ∧
        SameBut s t [flagsAddr]
    (∃ t, exec (tcmInstr f) s = .next t ∧ after (~~~a &&& b) t ∧
      (flagZ t.flags = true ↔ ∀ k < 8, b.getLsbD k = true → a.getLsbD k = true)) ∧
    (∃ t, exec (tmInstr f) s = .next t ∧ after (a &&& b) t ∧
      (flagZ t.flags = true ↔ ∀ k < 8, b.getLsbD k = true → a.getLsbD k = false)) ∧
    (encode (tcmInstr f)).head? = some (0x6#4 ++ f.column) ∧ (encode (tmInstr f)).head? = some (0x7#4 ++ f.column)) ∧
  (∀ (f : TwoForm) (s : State), ¬(f.src.readable s ∧ f.dst.accessible s) →
    Refuses (tcmInstr f) s [.absentRegister, .deviceRegister] ∧ Refuses (tmInstr f) s [.absentRegister, .deviceRegister])

/-- 42_logical.md R202, 46_rotate_shift.md R257: COM and SWAP. -/
def Obligations.ComAndSwap : Prop :=
  ∀ (f : OneForm) (s : State), f.loc.rewritable s →
    let d := f.loc.address s
    let a := s.reg d
    let after := fun (res : Byte) (v : Bool) (t : State) =>
      t.pc = s.pc + 2 ∧ t.reg d = res ∧
        t.flags = packFlags (flagC s.flags) (decide (res = 0#8)) (res.getLsbD 7) v (flagD s.flags) (flagH s.flags)
          (flagWdt s.flags) (flagSmr s.flags) ∧
        SameBut s t [d, flagsAddr]
    (∃ t, exec (comInstr f) s = .next t ∧ after (~~~a) false t) ∧
      (∃ t, exec (swapInstr f) s = .next t ∧ after (a.rotateLeft 4) (flagV s.flags) t) ∧
      (encode (comInstr f)).head? = some (0x6#4 ++ f.column) ∧ (encode (swapInstr f)).head? = some (0xF#4 ++ f.column)

/-- 46_rotate_shift.md R252 to R255, R251: the four rotates; V by `ROT_V`. -/
def Obligations.Rotates : Prop :=
  ∀ (f : OneForm) (s : State), f.loc.rewritable s →
    let d := f.loc.address s
    let a := s.reg d
    let c := flagC s.flags
    let after := fun (op : RotOp) (res : Byte) (out : Bool) (t : State) =>
      t.pc = s.pc + 2 ∧ t.reg d = res ∧ SameBut s t [d, flagsAddr] ∧
        t.flags = packFlags out (decide (res = 0#8)) (res.getLsbD 7)
          (match s.dev.rotV with
            | .signChanged => decide (a.getLsbD 7 ≠ res.getLsbD 7)
            | .free => Config.rotV op a res c)
          (flagD s.flags) (flagH s.flags) (flagWdt s.flags) (flagSmr s.flags)
    (∃ t, exec (rlInstr f) s = .next t ∧ after .rl (a.rotateLeft 1) (a.getLsbD 7) t) ∧
      (∃ t, exec (rlcInstr f) s = .next t ∧
        after .rlc ((a <<< 1) ||| (if c then 0x01#8 else 0x00#8)) (a.getLsbD 7) t) ∧
      (∃ t, exec (rrInstr f) s = .next t ∧ after .rr (a.rotateRight 1) (a.getLsbD 0) t) ∧
      (∃ t, exec (rrcInstr f) s = .next t ∧
        after .rrc ((a >>> 1) ||| (if c then 0x80#8 else 0x00#8)) (a.getLsbD 0) t) ∧
      (encode (rlInstr f)).head? = some (0x9#4 ++ f.column) ∧ (encode (rlcInstr f)).head? = some (0x1#4 ++ f.column) ∧
      (encode (rrInstr f)).head? = some (0xE#4 ++ f.column) ∧ (encode (rrcInstr f)).head? = some (0xC#4 ++ f.column)

/-- 46_rotate_shift.md R256: SRA gives floor(signed(a) / 2), the remainder bit in C. -/
def Obligations.ShiftRightArithmetic : Prop :=
  ∀ (f : OneForm) (s : State), f.loc.rewritable s →
    let d := f.loc.address s
    let a := s.reg d
    ∃ t, exec (sraInstr f) s = .next t ∧ t.pc = s.pc + 2 ∧ (t.reg d).toInt = a.toInt / 2 ∧
      (t.reg d).getLsbD 7 = a.getLsbD 7 ∧
      t.flags = packFlags (a.getLsbD 0) (decide (t.reg d = 0#8)) (a.getLsbD 7) false (flagD s.flags) (flagH s.flags)
        (flagWdt s.flags) (flagSmr s.flags) ∧
      SameBut s t [d, flagsAddr] ∧ (encode (sraInstr f)).head? = some (0xD#4 ++ f.column)

/-- 46_rotate_shift.md R252 to R255, R257, 42_logical.md R202, 47_cpu_control.md R271: eight RLs or RRs restore the
operand, nine RLCs or RRCs restore operand and C, RR undoes RL on the data, two SWAPs or COMs restore the operand, two
CCFs restore C. The register is named directly and is neither FLAGS nor RP. -/
def Obligations.RepeatedRotatesRestore : Prop :=
  (∀ (b : Byte) (s : State), s.ordinary (s.reg8 b) → s.reg8 b ≠ flagsAddr → s.reg8 b ≠ rpAddr →
    let d := s.reg8 b
    (∃ t, repeatExec (.rl_R b) 8 s = .next t ∧ t.reg d = s.reg d) ∧
      (∃ t, repeatExec (.rr_R b) 8 s = .next t ∧ t.reg d = s.reg d) ∧
      (∃ t, repeatExec (.rlc_R b) 9 s = .next t ∧ t.reg d = s.reg d ∧ flagC t.flags = flagC s.flags) ∧
      (∃ t, repeatExec (.rrc_R b) 9 s = .next t ∧ t.reg d = s.reg d ∧ flagC t.flags = flagC s.flags) ∧
      (∃ t u, exec (.rl_R b) s = .next t ∧ exec (.rr_R b) t = .next u ∧ u.reg d = s.reg d) ∧
      (∃ t, repeatExec (.swap_R b) 2 s = .next t ∧ t.reg d = s.reg d) ∧
      (∃ t, repeatExec (.com_R b) 2 s = .next t ∧ t.reg d = s.reg d)) ∧
  (∀ s : State, ∃ t, repeatExec .ccf 2 s = .next t ∧ t.flags = s.flags)

/-! ## Where a flag-affecting instruction stops -/

/-- 10_state.md R23, R24, R40, 20_memory.md R69: the instructions that rewrite an operand and affect flags, INCW and
DECW on a pair among them, run exactly when their source may be read and their destination may be rewritten, and
otherwise are refused for one of these reasons. When the others with register operands run stands with what they do. -/
def Obligations.RewritingRunsExactlyWhen : Prop :=
  let byteStops := [Refusal.absentRegister, .deviceRegister, .flagsDestination]
  (∀ (f : TwoForm) (s : State),
    ∀ i ∈ [addInstr f, adcInstr f, subInstr f, sbcInstr f, andInstr f, orInstr f, xorInstr f],
      ((∃ t, exec i s = .next t) ↔ f.src.readable s ∧ f.dst.rewritable s) ∧
      ((∃ t, exec i s = .next t) ∨ Refuses i s byteStops)) ∧
  (∀ (f : OneForm) (s : State),
    ∀ i ∈ [decInstr f, daInstr f, comInstr f, rlInstr f, rlcInstr f, rrInstr f, rrcInstr f, sraInstr f, swapInstr f],
      ((∃ t, exec i s = .next t) ↔ f.loc.rewritable s) ∧ ((∃ t, exec i s = .next t) ∨ Refuses i s byteStops)) ∧
  (∀ (f : IncForm) (s : State), ((∃ t, exec (incInstr f) s = .next t) ↔ f.loc.rewritable s) ∧
    ((∃ t, exec (incInstr f) s = .next t) ∨ Refuses (incInstr f) s byteStops)) ∧
  (∀ (f : OneForm) (s : State), ∀ i ∈ [incwInstr f, decwInstr f],
    ((∃ t, exec i s = .next t) ↔
      f.loc.pointerOk s ∧ s.pairOk (f.loc.address s) ∧ f.loc.address s ≠ flagsAddr) ∧
    ((∃ t, exec i s = .next t) ∨ Refuses i s (.oddPair :: byteStops)))

/-- 10_state.md R40, 30_encoding.md R98: FLAGS as the destination of a flag-affecting instruction is refused, by any
addressing mode, when nothing else is wrong. -/
def Obligations.FlagsDestinationRefused : Prop :=
  (∀ (f : TwoForm) (s : State), f.src.readable s → f.dst.pointerOk s → s.ordinary flagsAddr →
    f.dst.address s = flagsAddr →
    ∀ i ∈ [addInstr f, adcInstr f, subInstr f, sbcInstr f, andInstr f, orInstr f, xorInstr f],
      exec i s = .refused .flagsDestination) ∧
  (∀ (f : OneForm) (s : State), f.loc.pointerOk s → s.ordinary flagsAddr → f.loc.address s = flagsAddr →
    ∀ i ∈ [decInstr f, daInstr f, comInstr f, rlInstr f, rlcInstr f, rrInstr f, rrcInstr f, sraInstr f, swapInstr f],
      exec i s = .refused .flagsDestination) ∧
  (∀ (f : IncForm) (s : State), f.loc.pointerOk s → s.ordinary flagsAddr → f.loc.address s = flagsAddr →
    exec (incInstr f) s = .refused .flagsDestination) ∧
  (∀ (f : OneForm) (s : State), f.loc.pointerOk s → s.pairOk flagsAddr → f.loc.address s = flagsAddr →
    ∀ i ∈ [incwInstr f, decwInstr f], exec i s = .refused .flagsDestination)

/-- 10_state.md R23, 30_encoding.md R107: an odd pair is refused, be it the operand that is odd or the contents of the
pointer of DECW and INCW; and with pair operands in the range of 00_scope.md R11, only those two through a pointer can
still meet one. For LDCI the working register is ordinary, so that no other refusal comes first (log 36). -/
def Obligations.WellFormedNeverOddPair : Prop :=
  (∀ (i : Instr) (s : State), i.wellFormed s.dev.ldcNibbles = true → exec i s = .refused .oddPair →
    ∃ b, (i = .decw_IR b ∨ i = .incw_IR b) ∧ (s.reg (s.reg8 b)).getLsbD 0 = true) ∧
  (∀ (b : Byte) (s : State), b.getLsbD 0 = true →
    ∀ i ∈ [Instr.decw_RR b, .incw_RR b, .jp_IRR b, .call_IRR b], exec i s = .refused .oddPair) ∧
  (∀ (b : Byte) (s : State), s.ordinary (s.reg8 b) → (s.reg (s.reg8 b)).getLsbD 0 = true →
    ∀ i ∈ [Instr.decw_IR b, .incw_IR b], exec i s = .refused .oddPair) ∧
  (∀ (n p : Nibble) (s : State), p.getLsbD 0 = true → exec (.ldc_r_Irr n p) s = .refused .oddPair ∧
    (s.ordinary (s.wr n) → exec (.ldci_Ir_Irr n p) s = .refused .oddPair)) ∧
  (∀ (hi lo : Nibble) (s : State),
    let p := if s.dev.ldcNibbles = .dstSrc then hi else lo
    let n := if s.dev.ldcNibbles = .dstSrc then lo else hi
    p.getLsbD 0 = true → exec (.ldc_Irr_r hi lo) s = .refused .oddPair ∧
      (s.ordinary (s.wr n) → exec (.ldci_Irr_Ir hi lo) s = .refused .oddPair))

/-! ## Load, stack, program memory -/

/-- 40_load.md R141 to R153: CLR and the twelve forms of LD. No flag changes unless FLAGS is the destination. With an
operand that may not be used they are refused (10_state.md R24, 20_memory.md R69). The last clause is the object code of
each form, op code and operand order. -/
def Obligations.LoadAndClear : Prop :=
  (∀ (f : LoadForm) (s : State), f.src.readable s → f.dst.accessible s →
    ∃ t, exec (loadInstr f) s = .next t ∧ t.pc = s.pc + f.length ∧
      PlainWrite s t (f.dst.address s) (f.src.value s)) ∧
  (∀ (f : LoadForm) (s : State), ¬(f.src.readable s ∧ f.dst.accessible s) →
    Refuses (loadInstr f) s [.absentRegister, .deviceRegister]) ∧
  (∀ f : LoadForm, encode (loadInstr f) = match f with
    | .clr_R b => [0xB0#8, b]
    | .clr_IR b => [0xB1#8, b]
    | .r_IM dst imm => [dst ++ 0xC#4, imm]
    | .r_R dst src => [dst ++ 0x8#4, src]
    | .R_r dst src => [src ++ 0x9#4, dst]
    | .r_X dst x base => [0xC7#8, dst ++ x, base]
    | .X_r src x base => [0xD7#8, src ++ x, base]
    | .r_Ir dst src => [0xE3#8, dst ++ src]
    | .Ir_r dst src => [0xF3#8, dst ++ src]
    | .R_R dst src => [0xE4#8, src, dst]
    | .R_IR dst src => [0xE5#8, src, dst]
    | .R_IM dst imm => [0xE6#8, dst, imm]
    | .IR_IM dst imm => [0xE7#8, dst, imm]
    | .IR_R dst src => [0xF5#8, src, dst])

/-- 40_load.md R155, 20_memory.md R65: LDC from program memory. The other clauses say where it stops; the fault is
the model's (log 5). -/
def Obligations.LoadConstant : Prop :=
  (∀ (n p : Nibble) (s : State), s.pairOk (s.wr p) → hasRegister s.dev (s.wr n) = true →
    let addr := s.reg (s.wr p) ++ s.reg (s.wr p + 1)
    (∀ v, s.loaded addr v → ∃ t, exec (.ldc_r_Irr n p) s = .next t ∧ t.pc = s.pc + 2 ∧ PlainWrite s t (s.wr n) v) ∧
      (hasProgram s.dev addr = false → exec (.ldc_r_Irr n p) s = .refused .absentProgram) ∧
      (hasProgram s.dev addr = true → s.progByte addr = none → exec (.ldc_r_Irr n p) s = .fault .unprogrammed)) ∧
  (∀ (n p : Nibble) (s : State), ¬(s.pairOk (s.wr p) ∧ hasRegister s.dev (s.wr n) = true) →
    Refuses (.ldc_r_Irr n p) s [.oddPair, .absentRegister, .deviceRegister]) ∧
  (∀ n p : Nibble, encode (.ldc_r_Irr n p) = [0xC2#8, n ++ p])

/-- 40_load.md R156, 30_encoding.md R95, 20_memory.md R66: LDC to program memory under each value of `PROG_WRITE`, and
where it stops (R64, R69, 10_state.md R23, R24). -/
def Obligations.StoreConstant : Prop :=
  ∀ (hi lo : Nibble) (s : State),
    let p := if s.dev.ldcNibbles = .dstSrc then hi else lo
    let src := s.wr (if s.dev.ldcNibbles = .dstSrc then lo else hi)
    let addr := s.reg (s.wr p) ++ s.reg (s.wr p + 1)
    (s.pairOk (s.wr p) → hasRegister s.dev src = true →
      (hasProgram s.dev addr = true →
        (s.dev.progWrite = .perform → ∃ t, exec (.ldc_Irr_r hi lo) s = .next t ∧ t.pc = s.pc + 2 ∧
          t.progByte addr = some (s.plain 0 src) ∧ (∀ a, a ≠ addr → t.progByte a = s.progByte a) ∧
          (∀ a, t.reg a = s.reg a) ∧ SameRest s t) ∧
        (s.dev.progWrite = .ignore → ∃ t, exec (.ldc_Irr_r hi lo) s = .next t ∧ t.pc = s.pc + 2 ∧ SameBut s t []) ∧
        (s.dev.progWrite = .refuse → exec (.ldc_Irr_r hi lo) s = .refused .programStore)) ∧
      (hasProgram s.dev addr = false → exec (.ldc_Irr_r hi lo) s = .refused .absentProgram)) ∧
    (¬(s.pairOk (s.wr p) ∧ hasRegister s.dev src = true) →
      Refuses (.ldc_Irr_r hi lo) s [.oddPair, .absentRegister, .deviceRegister]) ∧
    encode (.ldc_Irr_r hi lo) = [0xD2#8, hi ++ lo]

/-- 40_load.md R157: POP. FLAGS may be the destination; SP may not. With a stack cell or an operand that may not be
used it is refused (10_state.md R24, R43, 20_memory.md R69). -/
def Obligations.PopResult : Prop :=
  (∀ (f : OneForm) (s : State), s.stackCell s.sp → f.loc.accessible s →
    let d := f.loc.address s
    (d ≠ s.dev.spAddr → ∃ t, exec (popInstr f) s = .next t ∧ t.pc = s.pc + 2 ∧ t.sp = s.sp + 1 ∧
      (isDevice s.dev d = false → t.reg d = s.reg s.sp ∧ SameBut s t [d, s.dev.spAddr]) ∧
      (isDevice s.dev d = true → SameBut (s.emit (.deviceWrite d (s.reg s.sp))) t [s.dev.spAddr])) ∧
    (d = s.dev.spAddr → exec (popInstr f) s = .refused .spOperand)) ∧
  (∀ (f : OneForm) (s : State), ¬(s.stackCell s.sp ∧ f.loc.accessible s) →
    Refuses (popInstr f) s [.stackOnSp, .absentRegister, .deviceRegister]) ∧
  (∀ b : Byte, encode (popInstr (.R b)) = [0x50#8, b] ∧ encode (popInstr (.IR b)) = [0x51#8, b])

/-- 40_load.md R158: PUSH. The SP register may not be the operand. With a stack cell or an operand that may not be used
it is refused (10_state.md R24, R43, 20_memory.md R69). -/
def Obligations.PushResult : Prop :=
  (∀ (f : OneForm) (s : State), s.stackCell (s.sp - 1) → f.loc.accessible s →
    let a := f.loc.address s
    (a ≠ s.dev.spAddr → ∃ t, exec (pushInstr f) s = .next t ∧ t.pc = s.pc + 2 ∧ t.sp = s.sp - 1 ∧
      t.reg (s.sp - 1) = s.plain 0 a ∧ SameBut s t [s.sp - 1, s.dev.spAddr]) ∧
    (a = s.dev.spAddr → exec (pushInstr f) s = .refused .spOperand)) ∧
  (∀ (f : OneForm) (s : State), ¬(s.stackCell (s.sp - 1) ∧ f.loc.accessible s) →
    Refuses (pushInstr f) s [.stackOnSp, .absentRegister, .deviceRegister, .spOperand]) ∧
  (∀ b : Byte, encode (pushInstr (.R b)) = [0x70#8, b] ∧ encode (pushInstr (.IR b)) = [0x71#8, b])

/-- 40_load.md R157, R158: POP of the same register undoes PUSH, but for the stack cell. -/
def Obligations.PushThenPop : Prop :=
  ∀ (b : Byte) (s : State), s.dev.wf → s.ordinary (s.reg8 b) → s.reg8 b ≠ s.dev.spAddr → s.stackCell (s.sp - 1) →
    s.sp - 1 ≠ rpAddr →
    ∃ t u, exec (.push_R b) s = .next t ∧ exec (.pop_R b) t = .next u ∧ u.reg (s.reg8 b) = s.reg (s.reg8 b) ∧
      u.pc = s.pc + 4 ∧ u.sp = s.sp ∧ SameBut s u [s.sp - 1]

/-! ## Block transfer -/

/-- 45_block_transfer.md R241: LDCI from program memory, the pointers not overlapping what is moved, and where it stops
(10_state.md R23, R24, 20_memory.md R64, R69); the fault is the model's (log 5). An overlap is refused:
`OverlapsRefused`. -/
def Obligations.BlockLoad : Prop :=
  ∀ (n p : Nibble) (s : State),
    let r := s.wr n
    let q := s.wr p
    let a8 := s.reg r
    let a16 := s.reg q ++ s.reg (q + 1)
    (s.ordinary r → s.pairOk q → hasRegister s.dev a8 = true → a8 ∉ [r, q, q + 1] → r ∉ [q, q + 1] →
      (∀ v, s.loaded a16 v →
        ∃ t, exec (.ldci_Ir_Irr n p) s = .next t ∧ t.pc = s.pc + 2 ∧ t.reg r = a8 + 1 ∧
          t.reg q ++ t.reg (q + 1) = a16 + 1 ∧
          (isDevice s.dev a8 = false → t.reg a8 = v ∧ SameBut s t [a8, r, q, q + 1]) ∧
          (isDevice s.dev a8 = true → SameBut (s.emit (.deviceWrite a8 v)) t [r, q, q + 1])) ∧
      (hasProgram s.dev a16 = false → exec (.ldci_Ir_Irr n p) s = .refused .absentProgram) ∧
      (hasProgram s.dev a16 = true → s.progByte a16 = none → exec (.ldci_Ir_Irr n p) s = .fault .unprogrammed)) ∧
    (¬(s.ordinary r ∧ s.pairOk q ∧ hasRegister s.dev a8 = true) →
      Refuses (.ldci_Ir_Irr n p) s [.oddPair, .absentRegister, .deviceRegister]) ∧
    encode (.ldci_Ir_Irr n p) = [0xC3#8, n ++ p]

/-- 45_block_transfer.md R242: LDCI to program memory under each value of `PROG_WRITE`; both pointers are incremented
whether or not the byte is stored. Where it stops: 10_state.md R23, R24, 20_memory.md R64, R69, and `OverlapsRefused`. -/
def Obligations.BlockStore : Prop :=
  ∀ (hi lo : Nibble) (s : State),
    let q := s.wr (if s.dev.ldcNibbles = .dstSrc then hi else lo)
    let r := s.wr (if s.dev.ldcNibbles = .dstSrc then lo else hi)
    let a8 := s.reg r
    let a16 := s.reg q ++ s.reg (q + 1)
    (s.ordinary r → s.pairOk q → hasRegister s.dev a8 = true → a8 ∉ [r, q, q + 1] → r ∉ [q, q + 1] →
      (hasProgram s.dev a16 = true →
        (s.dev.progWrite = .refuse → exec (.ldci_Irr_Ir hi lo) s = .refused .programStore) ∧
        (s.dev.progWrite ≠ .refuse →
          ∃ t, exec (.ldci_Irr_Ir hi lo) s = .next t ∧ t.pc = s.pc + 2 ∧ t.reg r = a8 + 1 ∧
            t.reg q ++ t.reg (q + 1) = a16 + 1 ∧ (∀ a, a ∉ [r, q, q + 1] → t.reg a = s.reg a) ∧ SameRest s t ∧
            (∀ a, t.progByte a =
              if s.dev.progWrite = .perform ∧ a = a16 then some (s.plain 0 a8) else s.progByte a))) ∧
      (hasProgram s.dev a16 = false → exec (.ldci_Irr_Ir hi lo) s = .refused .absentProgram)) ∧
    (¬(s.ordinary r ∧ s.pairOk q ∧ hasRegister s.dev a8 = true) →
      Refuses (.ldci_Irr_Ir hi lo) s [.oddPair, .absentRegister, .deviceRegister]) ∧
    encode (.ldci_Irr_Ir hi lo) = [0xD3#8, hi ++ lo]

/-- 10_state.md R43, 45_block_transfer.md R240, decision D29: a stack access (by POP, PUSH, CALL in both forms, RET, IRET
or interrupt entry) whose cell is the SP register itself is refused, and so is LDCI when the cell it moves is one of
its pointers or the working register is half of the pair. Which refusal is answered where another applies as well is
the model's (log 36): a stack cell that comes first in the list is on the SP register whatever the rest is, and for
the others the hypotheses say that those before it may be used. -/
def Obligations.OverlapsRefused : Prop :=
  (∀ (f : OneForm) (s : State), s.sp = s.dev.spAddr → exec (popInstr f) s = .refused .stackOnSp) ∧
  (∀ (f : OneForm) (s : State), f.loc.accessible s → f.loc.address s ≠ s.dev.spAddr → s.sp - 1 = s.dev.spAddr →
    exec (pushInstr f) s = .refused .stackOnSp) ∧
  (∀ (target : Word) (s : State), s.sp - 2 = s.dev.spAddr ∨ s.ordinary (s.sp - 2) ∧ s.sp - 1 = s.dev.spAddr →
    exec (.call_DA target) s = .refused .stackOnSp) ∧
  (∀ (b : Byte) (s : State), s.pairOk (s.reg8 b) →
    s.sp - 2 = s.dev.spAddr ∨ s.ordinary (s.sp - 2) ∧ s.sp - 1 = s.dev.spAddr →
    exec (.call_IRR b) s = .refused .stackOnSp) ∧
  (∀ s : State, s.sp = s.dev.spAddr ∨ s.ordinary s.sp ∧ s.sp + 1 = s.dev.spAddr →
    exec .ret s = .refused .stackOnSp) ∧
  (∀ s : State, s.sp = s.dev.spAddr ∨ s.ordinary s.sp ∧ s.sp + 1 = s.dev.spAddr ∨
    s.ordinary s.sp ∧ s.ordinary (s.sp + 1) ∧ s.sp + 2 = s.dev.spAddr → exec .iret s = .refused .stackOnSp) ∧
  (∀ (s : State) (h : IrqHandler), s.sp - 2 = s.dev.spAddr ∨ s.ordinary (s.sp - 2) ∧ s.sp - 1 = s.dev.spAddr ∨
    s.ordinary (s.sp - 2) ∧ s.ordinary (s.sp - 1) ∧ s.sp - 3 = s.dev.spAddr →
    s.interruptEntry h = .refused .stackOnSp) ∧
  (∀ (n p : Nibble) (s : State), s.ordinary (s.wr n) → s.pairOk (s.wr p) → hasRegister s.dev (s.reg (s.wr n)) = true →
    s.reg (s.wr n) ∈ [s.wr n, s.wr p, s.wr p + 1] ∨ s.wr n ∈ [s.wr p, s.wr p + 1] →
    exec (.ldci_Ir_Irr n p) s = .refused .ldciOverlap) ∧
  (∀ (hi lo : Nibble) (s : State),
    let q := s.wr (if s.dev.ldcNibbles = .dstSrc then hi else lo)
    let r := s.wr (if s.dev.ldcNibbles = .dstSrc then lo else hi)
    s.ordinary r → s.pairOk q → hasRegister s.dev (s.reg r) = true →
    s.reg r ∈ [r, q, q + 1] ∨ r ∈ [q, q + 1] → exec (.ldci_Irr_Ir hi lo) s = .refused .ldciOverlap)

/-! ## Program control -/

/-- 43_program_control.md R211, R212, 20_memory.md R63: both forms of CALL. With a stack cell or a
pair that may not be used it is refused (10_state.md R23, R24, R43, 20_memory.md R69). -/
def Obligations.CallResult : Prop :=
  (∀ s : State, s.stackCell (s.sp - 2) → s.stackCell (s.sp - 1) →
    let after := fun (target ret : Word) (t : State) =>
      t.pc = target ∧ t.sp = s.sp - 2 ∧ t.reg (s.sp - 2) = ret.extractLsb' 8 8 ∧ t.reg (s.sp - 1) = ret.extractLsb' 0 8 ∧
        SameBut s t [s.sp - 2, s.sp - 1, s.dev.spAddr]
    (∀ target : Word, ∃ t, exec (.call_DA target) s = .next t ∧ after target (s.pc + 3) t) ∧
    (∀ b : Byte, s.pairOk (s.reg8 b) →
      ∃ t, exec (.call_IRR b) s = .next t ∧ after (s.reg (s.reg8 b) ++ s.reg (s.reg8 b + 1)) (s.pc + 2) t)) ∧
  (∀ (target : Word) (s : State), ¬(s.stackCell (s.sp - 2) ∧ s.stackCell (s.sp - 1)) →
    Refuses (.call_DA target) s [.stackOnSp, .absentRegister, .deviceRegister]) ∧
  (∀ (b : Byte) (s : State), ¬(s.pairOk (s.reg8 b) ∧ s.stackCell (s.sp - 2) ∧ s.stackCell (s.sp - 1)) →
    Refuses (.call_IRR b) s [.stackOnSp, .absentRegister, .deviceRegister, .oddPair]) ∧
  (∀ (target : Word) (b : Byte), encode (.call_IRR b) = [0xD4#8, b] ∧
    encode (.call_DA target) = [0xD6#8, target.extractLsb' 8 8, target.extractLsb' 0 8])

/-- 43_program_control.md R218: RET. With a stack cell that may not be used it is refused (10_state.md R24, R43, 20_memory.md
R69). -/
def Obligations.RetResult : Prop :=
  (∀ s : State, s.stackCell s.sp → s.stackCell (s.sp + 1) →
    ∃ t, exec .ret s = .next t ∧ t.pc = s.reg s.sp ++ s.reg (s.sp + 1) ∧ t.sp = s.sp + 2 ∧
      SameBut s t [s.dev.spAddr] ∧ encode .ret = [0xAF#8]) ∧
  (∀ s : State, ¬(s.stackCell s.sp ∧ s.stackCell (s.sp + 1)) →
    Refuses .ret s [.stackOnSp, .absentRegister, .deviceRegister])

/-- 43_program_control.md R211, R212, R218: RET goes back to the instruction after the CALL, with SP as before. -/
def Obligations.CallThenRet : Prop :=
  ∀ (s t : State) (i : Instr), (∃ target, i = .call_DA target) ∨ (∃ b, i = .call_IRR b) → exec i s = .next t →
    ∃ u, exec .ret t = .next u ∧ u.pc = s.pc + BitVec.ofNat 16 i.length ∧ u.sp = s.sp ∧
      SameBut s u [s.sp - 2, s.sp - 1]

/-- 43_program_control.md R213: DJNZ. No flag changes, unless the counter is FLAGS. The second clause is not R213's: a
counter that is absent or a peripheral is refused (10_state.md R24, 20_memory.md R69, the spec's decisions D26 and D2;
log 21). -/
def Obligations.DjnzResult : Prop :=
  (∀ (n : Nibble) (offset : Byte) (s : State), s.ordinary (s.wr n) →
    let res := s.reg (s.wr n) - 1
    ∃ t, exec (.djnz_r_RA n offset) s = .next t ∧ t.reg (s.wr n) = res ∧
      t.pc = (if res = 0#8 then s.pc + 2 else s.pc + 2 + offset.signExtend 16) ∧ SameBut s t [s.wr n] ∧
      encode (.djnz_r_RA n offset) = [n ++ 0xA#4, offset]) ∧
  (∀ (n : Nibble) (offset : Byte) (s : State), ¬s.ordinary (s.wr n) →
    Refuses (.djnz_r_RA n offset) s [.absentRegister, .deviceRegister])

/-- 43_program_control.md R215 to R217: JP cc, JR cc and JP IRR change the pc alone. JP IRR is refused where its pair may not
be used (10_state.md R23, R24, 20_memory.md R69). -/
def Obligations.JumpResult : Prop :=
  (∀ (cc : Cond) (target : Word) (s : State), ∃ t, exec (.jp_cc_DA cc target) s = .next t ∧
    t.pc = (if condHolds cc s.flags then target else s.pc + 3) ∧ SameBut s t []) ∧
  (∀ (cc : Cond) (offset : Byte) (s : State), ∃ t, exec (.jr_cc_RA cc offset) s = .next t ∧
    t.pc = (if condHolds cc s.flags then s.pc + 2 + offset.signExtend 16 else s.pc + 2) ∧ SameBut s t []) ∧
  (∀ (b : Byte) (s : State), s.pairOk (s.reg8 b) → ∃ t, exec (.jp_IRR b) s = .next t ∧
    t.pc = s.reg (s.reg8 b) ++ s.reg (s.reg8 b + 1) ∧ SameBut s t []) ∧
  (∀ (b : Byte) (s : State), ¬s.pairOk (s.reg8 b) →
    Refuses (.jp_IRR b) s [.oddPair, .absentRegister, .deviceRegister]) ∧
  (∀ (code : Nibble) (target : Word) (offset b : Byte),
    encode (.jp_cc_DA (Cond.ofBits code) target) =
      [code ++ 0xD#4, target.extractLsb' 8 8, target.extractLsb' 0 8] ∧
    encode (.jr_cc_RA (Cond.ofBits code) offset) = [code ++ 0xB#4, offset] ∧ encode (.jp_IRR b) = [0x30#8, b])

/-! ## CPU control -/

/-- 47_cpu_control.md R271, R276, R277: CCF, RCF and SCF change C alone. -/
def Obligations.CarryInstructions : Prop :=
  ∀ s : State,
    let after := fun (f : Byte) (t : State) => t.pc = s.pc + 1 ∧ t.flags = f ∧ SameBut s t [flagsAddr]
    (∃ t, exec .ccf s = .next t ∧ after (s.flags ^^^ 0x80#8) t) ∧
      (∃ t, exec .rcf s = .next t ∧ after (s.flags &&& 0x7F#8) t) ∧
      (∃ t, exec .scf s = .next t ∧ after (s.flags ||| 0x80#8) t) ∧
      encode .ccf = [0xEF#8] ∧ encode .rcf = [0xCF#8] ∧ encode .scf = [0xDF#8]

/-- 47_cpu_control.md R272, R273: DI and EI write IMR(7) alone, and the interrupt check that follows sees it. -/
def Obligations.InterruptEnableInstructions : Prop :=
  ∀ s : State,
    (∃ t, exec .di s = .next t ∧ t.pc = s.pc + 1 ∧ t.imr = s.imr &&& 0x7F#8 ∧ SameBut s t [imrAddr] ∧
      t.interruptDue = none) ∧
    (∃ t, exec .ei s = .next t ∧ t.pc = s.pc + 1 ∧ t.imr = s.imr ||| 0x80#8 ∧ SameBut s t [imrAddr] ∧
      (s.mode = .running →
        ∀ x ∈ s.dev.irq, x.name ∈ s.pending → irqEnabled x.enable s.imr = true → t.interruptDue ≠ none)) ∧
    encode .di = [0x8F#8] ∧ encode .ei = [0x9F#8]

/-- 47_cpu_control.md R274, R279: HALT and STOP; STOP sets SMRF, and is refused with WDTF or SMRF still set. -/
def Obligations.HaltAndStop : Prop :=
  (∀ s : State, ∃ t, exec .halt s = .next t ∧ t.mode = .halted ∧ t.pc = s.pc + 1 ∧
    SameBut s { t with mode := s.mode } []) ∧
  (∀ s : State, flagWdt s.flags = false → flagSmr s.flags = false →
    ∃ t, exec .stop s = .next t ∧ t.mode = .stopped ∧ t.pc = s.pc + 1 ∧ t.flags = s.flags ||| 0x01#8 ∧
      SameBut s { t with mode := s.mode } [flagsAddr]) ∧
  (∀ s : State, flagWdt s.flags = true ∨ flagSmr s.flags = true → exec .stop s = .refused .staleStop) ∧
  encode .halt = [0x7F#8] ∧ encode .stop = [0x6F#8]

/-- 47_cpu_control.md R275, 30_encoding.md R105, R106: NOP and the 26 reserved op codes change nothing but the pc; how far
a reserved op code moves it is `RESERVED_LEN` (log 9). The model's choice: whatever that parameter says, the encoding of a
reserved op code is its first byte alone (log 37; R105 and R106 leave its length open). -/
def Obligations.NopAndReserved : Prop :=
  (∀ s : State, ∃ t, exec .nop s = .next t ∧ t.pc = s.pc + 1 ∧ SameBut s t []) ∧ encode .nop = [0xFF#8] ∧
  (∀ (s : State) (b : Byte) (i : Instr), (b, i) ∈ reservedInstrs →
    encode i = [b] ∧
    (s.dev.reservedLen ≠ .refuse → ∃ t, exec i s = .next t ∧ SameBut s t [] ∧
      ∃ n : Nat, 1 ≤ n ∧ n ≤ 3 ∧ t.pc = s.pc + BitVec.ofNat 16 n ∧
        (s.dev.reservedLen = .one → n = 1) ∧
        (s.dev.reservedLen = .column →
          n = if b.toNat % 16 = 15 then 1 else if b.toNat % 16 ≤ 3 then 2 else 3) ∧
        (s.dev.reservedLen = .free → n = (Config.reservedLen b).val + 1)) ∧
    (s.dev.reservedLen = .refuse → exec i s = .refused .reservedOpcode))

/-- 47_cpu_control.md R278, R280: SRP writes all eight bits of RP, which choose the working registers of the next
instruction; WDT is an event to the environment. The restart of the model's own count is log 20. -/
def Obligations.SrpAndWdt : Prop :=
  (∀ (imm : Byte) (s : State), ∃ t, exec (.srp_IM imm) s = .next t ∧ t.pc = s.pc + 2 ∧ t.rp = imm ∧
    SameBut s t [rpAddr] ∧ (∀ n : Nibble, t.wr n = imm.extractLsb' 4 4 ++ n)) ∧
  (∀ s : State, ∃ t, exec .wdt s = .next t ∧ t.pc = s.pc + 1 ∧ t.sinceRefresh = 0 ∧
    SameBut (s.emit .wdtRefresh) { t with sinceRefresh := s.sinceRefresh } []) ∧
  (∀ imm : Byte, encode (.srp_IM imm) = [0x31#8, imm]) ∧ encode .wdt = [0x5F#8]

/-! ## Rules of the whole machine -/

/-- 60_exceptions.md R300, 93_implementation_defined.md U2 to U10: on a device with every register and every program
address present, no peripheral, stores to program memory given a meaning and reserved op codes given a length, an
instruction completes, or is an LDC or LDCI read of a program byte that nothing has loaded (the model's fault, log 5),
or is refused for one of six reasons, each by the instructions that its rule names. -/
def Obligations.StopsOnlyWhereTheSpecRefuses : Prop :=
  ∀ (i : Instr) (s : State), s.dev.full → (∀ a, hasProgram s.dev a = true) → s.dev.progWrite ≠ .refuse →
    s.dev.reservedLen ≠ .refuse →
    (∃ t, exec i s = .next t) ∨
    (exec i s = .fault .unprogrammed ∧ ∃ n p, i = .ldc_r_Irr n p ∨ i = .ldci_Ir_Irr n p) ∨
    (exec i s = .refused .oddPair ∧
      ((∃ f, i = incwInstr f ∨ i = decwInstr f) ∨ (∃ b, i = .jp_IRR b ∨ i = .call_IRR b) ∨
        ∃ n p, i ∈ [Instr.ldc_r_Irr n p, .ldc_Irr_r n p, .ldci_Ir_Irr n p, .ldci_Irr_Ir n p])) ∨
    (exec i s = .refused .flagsDestination ∧
      ((∃ f, f.dst.address s = flagsAddr ∧
          i ∈ [addInstr f, adcInstr f, subInstr f, sbcInstr f, andInstr f, orInstr f, xorInstr f]) ∨
        (∃ f, f.loc.address s = flagsAddr ∧
          i ∈ [decInstr f, daInstr f, comInstr f, rlInstr f, rlcInstr f, rrInstr f, rrcInstr f, sraInstr f, swapInstr f,
            incwInstr f, decwInstr f]) ∨
        ∃ f, f.loc.address s = flagsAddr ∧ i = incInstr f)) ∨
    (exec i s = .refused .spOperand ∧ ∃ f, f.loc.address s = s.dev.spAddr ∧ (i = popInstr f ∨ i = pushInstr f)) ∨
    (exec i s = .refused .stackOnSp ∧
      ((∃ a, i = .call_DA a) ∨ (∃ b, i = .call_IRR b) ∨ (∃ f, i = popInstr f ∨ i = pushInstr f) ∨ i = .ret ∨ i = .iret) ∧
      s.dev.spAddr ∈ [s.sp - 2, s.sp - 1, s.sp, s.sp + 1, s.sp + 2]) ∨
    (exec i s = .refused .ldciOverlap ∧ ∃ n p, i = .ldci_Ir_Irr n p ∨ i = .ldci_Irr_Ir n p) ∨
    (exec i s = .refused .staleStop ∧ i = .stop ∧ (flagWdt s.flags = true ∨ flagSmr s.flags = true))

/-- 10_state.md R46, 47_cpu_control.md R274, R279, R280, 60_exceptions.md R303: no instruction changes `pending`, the
device or the environment's script; HALT and STOP alone change `mode`; an instruction hands the environment at most one
event, and only WDT a refresh. -/
def Obligations.InstructionsLeaveTheRest : Prop :=
  ∀ (i : Instr) (s t : State), exec i s = .next t →
    t.pending = s.pending ∧ t.dev = s.dev ∧ t.script = s.script ∧ t.executed = s.executed ∧ t.ended = s.ended ∧
      t.mode = (match i with | .halt => .halted | .stop => .stopped | _ => s.mode) ∧
      (i ≠ .wdt → t.sinceRefresh = s.sinceRefresh) ∧
      (t.emitted = s.emitted ∨ (i = .wdt ∧ t.emitted = s.emitted ++ [.wdtRefresh]) ∨
        (i ≠ .wdt ∧ ∃ a v, isDevice s.dev a = true ∧ t.emitted = s.emitted ++ [.deviceWrite a v]))

/-- 20_memory.md R66, R75: program memory changes only by LDC or LDCI to program memory, on a device that performs the
store, and then at the address that the pair holds and by the byte of the source cell, and nowhere else. -/
def Obligations.ProgramMemoryChangesOnlyByStores : Prop :=
  ∀ (i : Instr) (s t : State), exec i s = .next t →
    let addr := fun hi lo => s.pair (s.wr (pairNibble s.dev.ldcNibbles hi lo))
    let cell := fun hi lo => s.wr (sourceNibble s.dev.ldcNibbles hi lo)
    match i with
    | .ldc_Irr_r hi lo => ∀ a, t.progByte a =
        if s.dev.progWrite = .perform ∧ a = addr hi lo then some (s.plain 0 (cell hi lo)) else s.progByte a
    | .ldci_Irr_Ir hi lo => ∀ a, t.progByte a =
        if s.dev.progWrite = .perform ∧ a = addr hi lo then some (s.plain 0 (s.reg (cell hi lo))) else s.progByte a
    | _ => ∀ a, t.progByte a = s.progByte a

/-- 10_state.md R25, 70_reset_and_hazards.md R353: no instruction stores to a peripheral register. A plain read of one is
the environment's draw, a plain write of one is an event, and every other register reads as its cell. That a draw is a
free value of the count of instructions and of the read's place in its instruction is the model's (log 14), and that the
byte written is not stored (log 15). -/
def Obligations.PeripheralCellsUntouched : Prop :=
  (∀ (s : State) (ordinal : Nat) (a : Byte),
    s.plain ordinal a = if isDevice s.dev a = true then Config.draw s.executed ordinal else s.reg a) ∧
  (∀ (s : State) (a v : Byte), isDevice s.dev a = true → s.put a v = s.emit (.deviceWrite a v)) ∧
  (∀ (i : Instr) (s t : State), s.dev.wf → exec i s = .next t → ∀ a, isDevice s.dev a = true → t.reg a = s.reg a)
end

