-- ==== Sys2Proof/Laws/Memory.lean ====
section
/-! SUPPORT. The laws of the canonical memories: a read after a write to the same place gives the value written, a write
leaves every other place alone, and a write keeps the canonical form. -/

namespace Sys2Proof.Machine

theorem Memory.find?_insert_same (m : Memory) (a : Nat) (v : Byte) :
    Memory.find? (Memory.insert m a v) a = some v := by
  induction m with
  | nil => simp [Memory.insert, Memory.find?]
  | cons c m ih =>
    obtain ⟨k, w⟩ := c
    by_cases h1 : a < k
    · simp [Memory.insert, Memory.find?, h1]
    · by_cases h2 : a = k
      · simp [Memory.insert, Memory.find?, h2]
      · simp [Memory.insert, Memory.find?, h1, h2, ih]

theorem Memory.find?_insert_other (m : Memory) {a b : Nat} (v : Byte) (h : b ≠ a) :
    Memory.find? (Memory.insert m a v) b = Memory.find? m b := by
  induction m with
  | nil => simp [Memory.insert, Memory.find?, h]
  | cons c m ih =>
    obtain ⟨k, w⟩ := c
    by_cases h1 : a < k
    · simp [Memory.insert, Memory.find?, h1, h]
    · by_cases h2 : a = k
      · subst h2; simp [Memory.insert, Memory.find?, h]
      · simp [Memory.insert, Memory.find?, h1, h2, ih]

theorem Memory.find?_erase_same (m : Memory) (a : Nat) : Memory.find? (Memory.erase m a) a = none := by
  induction m with
  | nil => rfl
  | cons c m ih =>
    obtain ⟨k, w⟩ := c
    by_cases h : a = k <;> simp [Memory.erase, Memory.find?, h, ih]
    subst h; exact ih

theorem Memory.find?_erase_other (m : Memory) {a b : Nat} (h : b ≠ a) :
    Memory.find? (Memory.erase m a) b = Memory.find? m b := by
  induction m with
  | nil => rfl
  | cons c m ih =>
    obtain ⟨k, w⟩ := c
    by_cases h1 : a = k
    · subst h1; simp [Memory.erase, Memory.find?, h, ih]
    · simp [Memory.erase, Memory.find?, h1, ih]

/-- A read after a write to the same address gives the value written. -/
theorem Memory.read_write_same (fill : Option Byte) (m : Memory) (a : Nat) (v : Byte) :
    Memory.read fill (Memory.write fill m a v) a = some v := by
  by_cases h : some v = fill
  · simp [Memory.read, Memory.write, h, Memory.find?_erase_same]
  · simp [Memory.read, Memory.write, h, Memory.find?_insert_same]

/-- A write leaves every other address alone. -/
theorem Memory.read_write_other (fill : Option Byte) (m : Memory) {a b : Nat} (v : Byte) (h : b ≠ a) :
    Memory.read fill (Memory.write fill m a v) b = Memory.read fill m b := by
  by_cases h' : some v = fill
  · simp [Memory.read, Memory.write, h', Memory.find?_erase_other m h]
  · simp [Memory.read, Memory.write, h', Memory.find?_insert_other m v h]

/-- Every entry of an insertion is the new one or an old one. -/
theorem Memory.mem_insert {m : Memory} {a : Nat} {v : Byte} {c : Host.Cell} (h : c ∈ Memory.insert m a v) :
    c = (a, v) ∨ c ∈ m := by
  induction m with
  | nil => simpa [Memory.insert] using h
  | cons e m ih =>
    obtain ⟨k, w⟩ := e
    by_cases h1 : a < k
    · simpa [Memory.insert, h1] using h
    · by_cases h2 : a = k
      · simp [Memory.insert, h2] at h
        rcases h with h | h
        · exact .inl (by rw [h, h2])
        · exact .inr (List.mem_cons_of_mem _ h)
      · simp [Memory.insert, h1, h2] at h
        rcases h with h | h
        · exact .inr (by simp [h])
        · exact (ih h).imp_right (List.mem_cons_of_mem _)

theorem Memory.mem_erase {m : Memory} {a : Nat} {c : Host.Cell} (h : c ∈ Memory.erase m a) : c ∈ m := by
  induction m with
  | nil => exact h
  | cons e m ih =>
    obtain ⟨k, w⟩ := e
    by_cases h1 : a = k
    · simp [Memory.erase, h1] at h
      exact List.mem_cons_of_mem _ (ih (by simpa [h1] using h))
    · simp [Memory.erase, h1] at h
      rcases h with h | h
      · simp [h]
      · exact List.mem_cons_of_mem _ (ih h)

theorem Memory.rising_insert {m : Memory} (h : m.Pairwise fun c d => c.1 < d.1) (a : Nat) (v : Byte) :
    (Memory.insert m a v).Pairwise fun c d => c.1 < d.1 := by
  induction m with
  | nil => simp [Memory.insert]
  | cons e m ih =>
    obtain ⟨k, w⟩ := e
    obtain ⟨hk, hm⟩ := List.pairwise_cons.mp h
    by_cases h1 : a < k
    · simp only [Memory.insert, h1, if_true]
      refine List.pairwise_cons.mpr ⟨fun c hc => ?_, h⟩
      rcases List.mem_cons.mp hc with rfl | hc
      · exact h1
      · exact Nat.lt_trans h1 (hk c hc)
    · by_cases h2 : a = k
      · subst h2
        simp only [Memory.insert, Nat.lt_irrefl, if_false, if_true]
        exact List.pairwise_cons.mpr ⟨hk, hm⟩
      · simp only [Memory.insert, h1, h2, if_false]
        refine List.pairwise_cons.mpr ⟨fun c hc => ?_, ih hm⟩
        rcases Memory.mem_insert hc with rfl | hc
        · show k < a; omega
        · exact hk c hc

theorem Memory.rising_erase {m : Memory} (h : m.Pairwise fun c d => c.1 < d.1) (a : Nat) :
    (Memory.erase m a).Pairwise fun c d => c.1 < d.1 := by
  induction m with
  | nil => exact h
  | cons e m ih =>
    obtain ⟨k, w⟩ := e
    obtain ⟨hk, hm⟩ := List.pairwise_cons.mp h
    by_cases h1 : a = k
    · simpa [Memory.erase, h1] using (h1 ▸ ih hm)
    · simp only [Memory.erase, h1, if_false]
      exact List.pairwise_cons.mpr ⟨fun c hc => hk c (Memory.mem_erase hc), ih hm⟩

/-- A write inside the address space keeps the canonical form. -/
theorem Memory.wf_write {fill : Option Byte} {size : Nat} {m : Memory} (h : Memory.wf fill size m)
    {a : Nat} (ha : a < size) (v : Byte) : Memory.wf fill size (Memory.write fill m a v) := by
  obtain ⟨hp, hm⟩ := h
  by_cases hv : some v = fill
  · simp only [Memory.write, hv, if_true]
    exact ⟨Memory.rising_erase hp a, fun c hc => hm c (Memory.mem_erase hc)⟩
  · simp only [Memory.write, hv, if_false]
    refine ⟨Memory.rising_insert hp a v, fun c hc => ?_⟩
    rcases Memory.mem_insert hc with rfl | hc
    · exact ⟨ha, hv⟩
    · exact hm c hc

end Sys2Proof.Machine
end

