-- ==== Sys2Proof/Laws/State.lean ====
section
/-! SUPPORT. One lemma for each field of State under each update, true by `rfl`; and what a register, and a program
byte, reads as after each update. -/

namespace Sys2Proof.Machine

variable (s : State)

/-! ## setReg -/

@[simp] theorem State.setReg_prog (a v : Byte) : (s.setReg a v).prog = s.prog := rfl
@[simp] theorem State.setReg_pc (a v : Byte) : (s.setReg a v).pc = s.pc := rfl
@[simp] theorem State.setReg_mode (a v : Byte) : (s.setReg a v).mode = s.mode := rfl
@[simp] theorem State.setReg_pending (a v : Byte) : (s.setReg a v).pending = s.pending := rfl
@[simp] theorem State.setReg_dev (a v : Byte) : (s.setReg a v).dev = s.dev := rfl
@[simp] theorem State.setReg_script (a v : Byte) : (s.setReg a v).script = s.script := rfl
@[simp] theorem State.setReg_emitted (a v : Byte) : (s.setReg a v).emitted = s.emitted := rfl
@[simp] theorem State.setReg_executed (a v : Byte) : (s.setReg a v).executed = s.executed := rfl
@[simp] theorem State.setReg_sinceRefresh (a v : Byte) : (s.setReg a v).sinceRefresh = s.sinceRefresh := rfl
@[simp] theorem State.setReg_ended (a v : Byte) : (s.setReg a v).ended = s.ended := rfl

/-! ## setFlags -/

@[simp] theorem State.setFlags_prog (v : Byte) : (s.setFlags v).prog = s.prog := rfl
@[simp] theorem State.setFlags_pc (v : Byte) : (s.setFlags v).pc = s.pc := rfl
@[simp] theorem State.setFlags_mode (v : Byte) : (s.setFlags v).mode = s.mode := rfl
@[simp] theorem State.setFlags_pending (v : Byte) : (s.setFlags v).pending = s.pending := rfl
@[simp] theorem State.setFlags_dev (v : Byte) : (s.setFlags v).dev = s.dev := rfl
@[simp] theorem State.setFlags_script (v : Byte) : (s.setFlags v).script = s.script := rfl
@[simp] theorem State.setFlags_emitted (v : Byte) : (s.setFlags v).emitted = s.emitted := rfl
@[simp] theorem State.setFlags_executed (v : Byte) : (s.setFlags v).executed = s.executed := rfl
@[simp] theorem State.setFlags_sinceRefresh (v : Byte) : (s.setFlags v).sinceRefresh = s.sinceRefresh := rfl
@[simp] theorem State.setFlags_ended (v : Byte) : (s.setFlags v).ended = s.ended := rfl

/-! ## setRp -/

@[simp] theorem State.setRp_prog (v : Byte) : (s.setRp v).prog = s.prog := rfl
@[simp] theorem State.setRp_pc (v : Byte) : (s.setRp v).pc = s.pc := rfl
@[simp] theorem State.setRp_mode (v : Byte) : (s.setRp v).mode = s.mode := rfl
@[simp] theorem State.setRp_pending (v : Byte) : (s.setRp v).pending = s.pending := rfl
@[simp] theorem State.setRp_dev (v : Byte) : (s.setRp v).dev = s.dev := rfl
@[simp] theorem State.setRp_script (v : Byte) : (s.setRp v).script = s.script := rfl
@[simp] theorem State.setRp_emitted (v : Byte) : (s.setRp v).emitted = s.emitted := rfl
@[simp] theorem State.setRp_executed (v : Byte) : (s.setRp v).executed = s.executed := rfl
@[simp] theorem State.setRp_sinceRefresh (v : Byte) : (s.setRp v).sinceRefresh = s.sinceRefresh := rfl
@[simp] theorem State.setRp_ended (v : Byte) : (s.setRp v).ended = s.ended := rfl

/-! ## setImr -/

@[simp] theorem State.setImr_prog (v : Byte) : (s.setImr v).prog = s.prog := rfl
@[simp] theorem State.setImr_pc (v : Byte) : (s.setImr v).pc = s.pc := rfl
@[simp] theorem State.setImr_mode (v : Byte) : (s.setImr v).mode = s.mode := rfl
@[simp] theorem State.setImr_pending (v : Byte) : (s.setImr v).pending = s.pending := rfl
@[simp] theorem State.setImr_dev (v : Byte) : (s.setImr v).dev = s.dev := rfl
@[simp] theorem State.setImr_script (v : Byte) : (s.setImr v).script = s.script := rfl
@[simp] theorem State.setImr_emitted (v : Byte) : (s.setImr v).emitted = s.emitted := rfl
@[simp] theorem State.setImr_executed (v : Byte) : (s.setImr v).executed = s.executed := rfl
@[simp] theorem State.setImr_sinceRefresh (v : Byte) : (s.setImr v).sinceRefresh = s.sinceRefresh := rfl
@[simp] theorem State.setImr_ended (v : Byte) : (s.setImr v).ended = s.ended := rfl

/-! ## setSp -/

@[simp] theorem State.setSp_prog (v : Byte) : (s.setSp v).prog = s.prog := rfl
@[simp] theorem State.setSp_pc (v : Byte) : (s.setSp v).pc = s.pc := rfl
@[simp] theorem State.setSp_mode (v : Byte) : (s.setSp v).mode = s.mode := rfl
@[simp] theorem State.setSp_pending (v : Byte) : (s.setSp v).pending = s.pending := rfl
@[simp] theorem State.setSp_dev (v : Byte) : (s.setSp v).dev = s.dev := rfl
@[simp] theorem State.setSp_script (v : Byte) : (s.setSp v).script = s.script := rfl
@[simp] theorem State.setSp_emitted (v : Byte) : (s.setSp v).emitted = s.emitted := rfl
@[simp] theorem State.setSp_executed (v : Byte) : (s.setSp v).executed = s.executed := rfl
@[simp] theorem State.setSp_sinceRefresh (v : Byte) : (s.setSp v).sinceRefresh = s.sinceRefresh := rfl
@[simp] theorem State.setSp_ended (v : Byte) : (s.setSp v).ended = s.ended := rfl

/-! ## setPair -/

@[simp] theorem State.setPair_prog (a : Byte) (v : Word) : (s.setPair a v).prog = s.prog := rfl
@[simp] theorem State.setPair_pc (a : Byte) (v : Word) : (s.setPair a v).pc = s.pc := rfl
@[simp] theorem State.setPair_mode (a : Byte) (v : Word) : (s.setPair a v).mode = s.mode := rfl
@[simp] theorem State.setPair_pending (a : Byte) (v : Word) : (s.setPair a v).pending = s.pending := rfl
@[simp] theorem State.setPair_dev (a : Byte) (v : Word) : (s.setPair a v).dev = s.dev := rfl
@[simp] theorem State.setPair_script (a : Byte) (v : Word) : (s.setPair a v).script = s.script := rfl
@[simp] theorem State.setPair_emitted (a : Byte) (v : Word) : (s.setPair a v).emitted = s.emitted := rfl
@[simp] theorem State.setPair_executed (a : Byte) (v : Word) : (s.setPair a v).executed = s.executed := rfl
@[simp] theorem State.setPair_sinceRefresh (a : Byte) (v : Word) : (s.setPair a v).sinceRefresh = s.sinceRefresh := rfl
@[simp] theorem State.setPair_ended (a : Byte) (v : Word) : (s.setPair a v).ended = s.ended := rfl

/-! ## updateFlags -/

@[simp] theorem State.updateFlags_prog (u : FlagUpdate) : (s.updateFlags u).prog = s.prog := rfl
@[simp] theorem State.updateFlags_pc (u : FlagUpdate) : (s.updateFlags u).pc = s.pc := rfl
@[simp] theorem State.updateFlags_mode (u : FlagUpdate) : (s.updateFlags u).mode = s.mode := rfl
@[simp] theorem State.updateFlags_pending (u : FlagUpdate) : (s.updateFlags u).pending = s.pending := rfl
@[simp] theorem State.updateFlags_dev (u : FlagUpdate) : (s.updateFlags u).dev = s.dev := rfl
@[simp] theorem State.updateFlags_script (u : FlagUpdate) : (s.updateFlags u).script = s.script := rfl
@[simp] theorem State.updateFlags_emitted (u : FlagUpdate) : (s.updateFlags u).emitted = s.emitted := rfl
@[simp] theorem State.updateFlags_executed (u : FlagUpdate) : (s.updateFlags u).executed = s.executed := rfl
@[simp] theorem State.updateFlags_sinceRefresh (u : FlagUpdate) : (s.updateFlags u).sinceRefresh = s.sinceRefresh := rfl
@[simp] theorem State.updateFlags_ended (u : FlagUpdate) : (s.updateFlags u).ended = s.ended := rfl

/-! ## pushWord -/

@[simp] theorem State.pushWord_prog (v : Word) : (s.pushWord v).prog = s.prog := rfl
@[simp] theorem State.pushWord_pc (v : Word) : (s.pushWord v).pc = s.pc := rfl
@[simp] theorem State.pushWord_mode (v : Word) : (s.pushWord v).mode = s.mode := rfl
@[simp] theorem State.pushWord_pending (v : Word) : (s.pushWord v).pending = s.pending := rfl
@[simp] theorem State.pushWord_dev (v : Word) : (s.pushWord v).dev = s.dev := rfl
@[simp] theorem State.pushWord_script (v : Word) : (s.pushWord v).script = s.script := rfl
@[simp] theorem State.pushWord_emitted (v : Word) : (s.pushWord v).emitted = s.emitted := rfl
@[simp] theorem State.pushWord_executed (v : Word) : (s.pushWord v).executed = s.executed := rfl
@[simp] theorem State.pushWord_sinceRefresh (v : Word) : (s.pushWord v).sinceRefresh = s.sinceRefresh := rfl
@[simp] theorem State.pushWord_ended (v : Word) : (s.pushWord v).ended = s.ended := rfl

/-! ## emit -/

@[simp] theorem State.emit_regs (e : Emission) : (s.emit e).regs = s.regs := rfl
@[simp] theorem State.emit_prog (e : Emission) : (s.emit e).prog = s.prog := rfl
@[simp] theorem State.emit_pc (e : Emission) : (s.emit e).pc = s.pc := rfl
@[simp] theorem State.emit_mode (e : Emission) : (s.emit e).mode = s.mode := rfl
@[simp] theorem State.emit_pending (e : Emission) : (s.emit e).pending = s.pending := rfl
@[simp] theorem State.emit_dev (e : Emission) : (s.emit e).dev = s.dev := rfl
@[simp] theorem State.emit_script (e : Emission) : (s.emit e).script = s.script := rfl
@[simp] theorem State.emit_executed (e : Emission) : (s.emit e).executed = s.executed := rfl
@[simp] theorem State.emit_sinceRefresh (e : Emission) : (s.emit e).sinceRefresh = s.sinceRefresh := rfl
@[simp] theorem State.emit_ended (e : Emission) : (s.emit e).ended = s.ended := rfl

/-! ## goto -/

@[simp] theorem State.goto_regs (target : Word) : (s.goto target).regs = s.regs := rfl
@[simp] theorem State.goto_prog (target : Word) : (s.goto target).prog = s.prog := rfl
@[simp] theorem State.goto_mode (target : Word) : (s.goto target).mode = s.mode := rfl
@[simp] theorem State.goto_pending (target : Word) : (s.goto target).pending = s.pending := rfl
@[simp] theorem State.goto_dev (target : Word) : (s.goto target).dev = s.dev := rfl
@[simp] theorem State.goto_script (target : Word) : (s.goto target).script = s.script := rfl
@[simp] theorem State.goto_emitted (target : Word) : (s.goto target).emitted = s.emitted := rfl
@[simp] theorem State.goto_executed (target : Word) : (s.goto target).executed = s.executed := rfl
@[simp] theorem State.goto_sinceRefresh (target : Word) : (s.goto target).sinceRefresh = s.sinceRefresh := rfl
@[simp] theorem State.goto_ended (target : Word) : (s.goto target).ended = s.ended := rfl

/-! ## advance -/

@[simp] theorem State.advance_regs (length : Word) : (s.advance length).regs = s.regs := rfl
@[simp] theorem State.advance_prog (length : Word) : (s.advance length).prog = s.prog := rfl
@[simp] theorem State.advance_mode (length : Word) : (s.advance length).mode = s.mode := rfl
@[simp] theorem State.advance_pending (length : Word) : (s.advance length).pending = s.pending := rfl
@[simp] theorem State.advance_dev (length : Word) : (s.advance length).dev = s.dev := rfl
@[simp] theorem State.advance_script (length : Word) : (s.advance length).script = s.script := rfl
@[simp] theorem State.advance_emitted (length : Word) : (s.advance length).emitted = s.emitted := rfl
@[simp] theorem State.advance_executed (length : Word) : (s.advance length).executed = s.executed := rfl
@[simp] theorem State.advance_sinceRefresh (length : Word) : (s.advance length).sinceRefresh = s.sinceRefresh := rfl
@[simp] theorem State.advance_ended (length : Word) : (s.advance length).ended = s.ended := rfl

/-! ## setProgByte -/

@[simp] theorem State.setProgByte_regs (a : Word) (v : Byte) : (s.setProgByte a v).regs = s.regs := rfl
@[simp] theorem State.setProgByte_pc (a : Word) (v : Byte) : (s.setProgByte a v).pc = s.pc := rfl
@[simp] theorem State.setProgByte_mode (a : Word) (v : Byte) : (s.setProgByte a v).mode = s.mode := rfl
@[simp] theorem State.setProgByte_pending (a : Word) (v : Byte) : (s.setProgByte a v).pending = s.pending := rfl
@[simp] theorem State.setProgByte_dev (a : Word) (v : Byte) : (s.setProgByte a v).dev = s.dev := rfl
@[simp] theorem State.setProgByte_script (a : Word) (v : Byte) : (s.setProgByte a v).script = s.script := rfl
@[simp] theorem State.setProgByte_emitted (a : Word) (v : Byte) : (s.setProgByte a v).emitted = s.emitted := rfl
@[simp] theorem State.setProgByte_executed (a : Word) (v : Byte) : (s.setProgByte a v).executed = s.executed := rfl
@[simp] theorem State.setProgByte_sinceRefresh (a : Word) (v : Byte) : (s.setProgByte a v).sinceRefresh = s.sinceRefresh := rfl
@[simp] theorem State.setProgByte_ended (a : Word) (v : Byte) : (s.setProgByte a v).ended = s.ended := rfl

/-! ## countInstruction -/

@[simp] theorem State.countInstruction_regs : (s.countInstruction).regs = s.regs := rfl
@[simp] theorem State.countInstruction_prog : (s.countInstruction).prog = s.prog := rfl
@[simp] theorem State.countInstruction_pc : (s.countInstruction).pc = s.pc := rfl
@[simp] theorem State.countInstruction_mode : (s.countInstruction).mode = s.mode := rfl
@[simp] theorem State.countInstruction_pending : (s.countInstruction).pending = s.pending := rfl
@[simp] theorem State.countInstruction_dev : (s.countInstruction).dev = s.dev := rfl
@[simp] theorem State.countInstruction_script : (s.countInstruction).script = s.script := rfl
@[simp] theorem State.countInstruction_emitted : (s.countInstruction).emitted = s.emitted := rfl
@[simp] theorem State.countInstruction_ended : (s.countInstruction).ended = s.ended := rfl

@[simp] theorem State.goto_pc (target : Word) : (s.goto target).pc = target := rfl
@[simp] theorem State.advance_pc (length : Word) : (s.advance length).pc = s.pc + length := rfl
@[simp] theorem State.emit_emitted (e : Emission) : (s.emit e).emitted = s.emitted ++ [e] := rfl
@[simp] theorem State.countInstruction_executed : s.countInstruction.executed = s.executed + 1 := rfl
@[simp] theorem State.countInstruction_sinceRefresh : s.countInstruction.sinceRefresh = s.sinceRefresh + 1 := rfl

/-! ## Registers after an update -/

theorem State.reg_setReg_same (a v : Byte) : (s.setReg a v).reg a = v := by
  simp [State.reg, State.setReg, Memory.read_write_same]

theorem State.reg_setReg_other {a b : Byte} (v : Byte) (h : b ≠ a) : (s.setReg a v).reg b = s.reg b := by
  have h' : b.toNat ≠ a.toNat := fun e => h (BitVec.eq_of_toNat_eq e)
  simp [State.reg, State.setReg, Memory.read_write_other _ _ _ h']

/-- `x[b]` after `x[a] <- v`. -/
@[simp] theorem State.reg_setReg (a v b : Byte) : (s.setReg a v).reg b = if b = a then v else s.reg b := by
  by_cases h : b = a
  · subst h; simp [State.reg_setReg_same]
  · simp [h, State.reg_setReg_other s v h]

@[simp] theorem State.reg_setFlags (v b : Byte) : (s.setFlags v).reg b = if b = flagsAddr then v else s.reg b :=
  State.reg_setReg s flagsAddr v b
@[simp] theorem State.reg_setRp (v b : Byte) : (s.setRp v).reg b = if b = rpAddr then v else s.reg b :=
  State.reg_setReg s rpAddr v b
@[simp] theorem State.reg_setImr (v b : Byte) : (s.setImr v).reg b = if b = imrAddr then v else s.reg b :=
  State.reg_setReg s imrAddr v b
@[simp] theorem State.reg_setSp (v b : Byte) : (s.setSp v).reg b = if b = s.dev.spAddr then v else s.reg b :=
  State.reg_setReg s s.dev.spAddr v b
@[simp] theorem State.reg_updateFlags (u : FlagUpdate) (b : Byte) :
    (s.updateFlags u).reg b = if b = flagsAddr then u.apply s.flags else s.reg b :=
  State.reg_setReg s flagsAddr _ b
@[simp] theorem State.reg_emit (e : Emission) (b : Byte) : (s.emit e).reg b = s.reg b := rfl
@[simp] theorem State.reg_goto (target : Word) (b : Byte) : (s.goto target).reg b = s.reg b := rfl
@[simp] theorem State.reg_advance (length : Word) (b : Byte) : (s.advance length).reg b = s.reg b := rfl
@[simp] theorem State.reg_setProgByte (a : Word) (v : Byte) (b : Byte) : (s.setProgByte a v).reg b = s.reg b := rfl
@[simp] theorem State.reg_countInstruction (b : Byte) : (s.countInstruction).reg b = s.reg b := rfl

/-- FLAGS after `x[a] <- v`. -/
@[simp] theorem State.flags_setReg (a v : Byte) : (s.setReg a v).flags = if flagsAddr = a then v else s.flags :=
  State.reg_setReg s a v flagsAddr

@[simp] theorem State.flags_setFlags (v : Byte) : (s.setFlags v).flags = v := State.reg_setReg_same s flagsAddr v
@[simp] theorem State.flags_updateFlags (u : FlagUpdate) : (s.updateFlags u).flags = u.apply s.flags :=
  State.reg_setReg_same s flagsAddr _
@[simp] theorem State.rp_setRp (v : Byte) : (s.setRp v).rp = v := State.reg_setReg_same s rpAddr v
@[simp] theorem State.imr_setImr (v : Byte) : (s.setImr v).imr = v := State.reg_setReg_same s imrAddr v
@[simp] theorem State.sp_setSp (v : Byte) : (s.setSp v).sp = v := State.reg_setReg_same s s.dev.spAddr v

/-- SP after `x[a] <- v`. -/
@[simp] theorem State.sp_setReg (a v : Byte) : (s.setReg a v).sp = if s.dev.spAddr = a then v else s.sp :=
  State.reg_setReg s a v s.dev.spAddr

@[simp] theorem State.flags_goto (target : Word) : (s.goto target).flags = s.flags := rfl
@[simp] theorem State.flags_advance (length : Word) : (s.advance length).flags = s.flags := rfl
@[simp] theorem State.flags_emit (e : Emission) : (s.emit e).flags = s.flags := rfl

/-! ## Program bytes after an update -/

@[simp] theorem State.progByte_setReg (a v : Byte) (b : Word) : (s.setReg a v).progByte b = s.progByte b := rfl
@[simp] theorem State.progByte_setFlags (v : Byte) (b : Word) : (s.setFlags v).progByte b = s.progByte b := rfl
@[simp] theorem State.progByte_setRp (v : Byte) (b : Word) : (s.setRp v).progByte b = s.progByte b := rfl
@[simp] theorem State.progByte_setImr (v : Byte) (b : Word) : (s.setImr v).progByte b = s.progByte b := rfl
@[simp] theorem State.progByte_setSp (v : Byte) (b : Word) : (s.setSp v).progByte b = s.progByte b := rfl
@[simp] theorem State.progByte_setPair (a : Byte) (v : Word) (b : Word) : (s.setPair a v).progByte b = s.progByte b := rfl
@[simp] theorem State.progByte_updateFlags (u : FlagUpdate) (b : Word) : (s.updateFlags u).progByte b = s.progByte b := rfl
@[simp] theorem State.progByte_pushWord (v : Word) (b : Word) : (s.pushWord v).progByte b = s.progByte b := rfl
@[simp] theorem State.progByte_emit (e : Emission) (b : Word) : (s.emit e).progByte b = s.progByte b := rfl
@[simp] theorem State.progByte_goto (target : Word) (b : Word) : (s.goto target).progByte b = s.progByte b := rfl
@[simp] theorem State.progByte_advance (length : Word) (b : Word) : (s.advance length).progByte b = s.progByte b := rfl
@[simp] theorem State.progByte_countInstruction (b : Word) : (s.countInstruction).progByte b = s.progByte b := rfl

/-- `prog[b]` after `prog[a] <- v`. -/
@[simp] theorem State.progByte_setProgByte (a b : Word) (v : Byte) :
    (s.setProgByte a v).progByte b = if b = a then some v else s.progByte b := by
  by_cases h : b = a
  · subst h; simp [State.progByte, State.setProgByte, Memory.read_write_same]
  · have h' : b.toNat ≠ a.toNat := fun e => h (BitVec.eq_of_toNat_eq e)
    simp [State.progByte, State.setProgByte, Memory.read_write_other _ _ _ h', h]

end Sys2Proof.Machine
end

