-- ==== Sys2Proof/Laws/Ops.lean ====
section
/-! SUPPORT. One lemma for each shared operation that says everything it can do; meanings are reasoned about through
these and not by unfolding. -/

namespace Sys2Proof.Machine

/-! ## Guards -/

@[simp] theorem noStop_nil : NoStop [] := fun _ h => absurd h (by simp)

@[simp] theorem noStop_cons (c : Option Refusal) (stops : List (Option Refusal)) :
    NoStop (c :: stops) ↔ c = none ∧ NoStop stops := by simp [NoStop]

@[simp] theorem noStop_append (front back : List (Option Refusal)) :
    NoStop (front ++ back) ↔ NoStop front ∧ NoStop back := by
  simp only [NoStop, List.mem_append, or_imp, forall_and]

@[simp] theorem guarded_nil (k : Result) : guarded [] k = k := rfl
@[simp] theorem guarded_none (stops : List (Option Refusal)) (k : Result) :
    guarded (none :: stops) k = guarded stops k := rfl
@[simp] theorem guarded_some (r : Refusal) (stops : List (Option Refusal)) (k : Result) :
    guarded (some r :: stops) k = .refused r := rfl

/-- With no reason to refuse, the guard goes on. -/
theorem guarded_of_noStop {stops : List (Option Refusal)} (h : NoStop stops) (k : Result) : guarded stops k = k := by
  induction stops with
  | nil => rfl
  | cons c stops ih =>
    cases c with
    | none => exact ih (by simpa using h)
    | some r => simp at h

/-- A guard that goes on to a next state found no reason to refuse. -/
theorem guarded_next {stops : List (Option Refusal)} {k : Result} {t : State} :
    guarded stops k = .next t ↔ NoStop stops ∧ k = .next t := by
  induction stops with
  | nil => simp [guarded]
  | cons c stops ih => cases c <;> simp [guarded, ih]

/-- With a reason to refuse, the guard answers one of the reasons. -/
theorem guarded_of_stop {stops : List (Option Refusal)} (h : ¬NoStop stops) (k : Result) :
    ∃ r, some r ∈ stops ∧ guarded stops k = .refused r := by
  induction stops with
  | nil => exact absurd noStop_nil h
  | cons c stops ih =>
    cases c with
    | none =>
      obtain ⟨r, hr, e⟩ := ih (by simpa using h)
      exact ⟨r, List.mem_cons_of_mem _ hr, e⟩
    | some r => exact ⟨r, List.mem_cons_self, rfl⟩

theorem guarded_append_noStop {front : List (Option Refusal)} (h : NoStop front)
    (back : List (Option Refusal)) (k : Result) : guarded (front ++ back) k = guarded back k := by
  induction front with
  | nil => rfl
  | cons c front ih =>
    cases c with
    | none => exact ih (by simpa using h)
    | some r => simp at h

@[simp] theorem stopIf_none (b : Bool) (r : Refusal) : stopIf b r = none ↔ b = false := by cases b <;> simp [stopIf]

@[simp] theorem State.accessStop_none (s : State) (a : Byte) : s.accessStop a = none ↔ hasRegister s.dev a = true := by
  simp [State.accessStop]

/-- A register may be used as a pointer, half of a pair or a read-modify-write destination exactly when it is
ordinary. -/
@[simp] theorem State.useStop_none (s : State) (a : Byte) : s.useStop a = none ↔ s.ordinary a := by
  unfold State.useStop State.ordinary
  cases hasRegister s.dev a <;> simp

/-- A pair may be used exactly when its address is even and both halves are ordinary. -/
theorem State.pairStop_none (s : State) (a : Byte) :
    s.pairStop a = none ↔ a.getLsbD 0 = false ∧ s.ordinary a ∧ s.ordinary (a + 1) := by
  unfold State.pairStop
  cases h : a.getLsbD 0 <;> simp

/-- A stack cell is one that is ordinary and not the SP register. -/
theorem State.stackStop_none (s : State) (a : Byte) : s.stackStop a = none ↔ a ≠ s.dev.spAddr ∧ s.ordinary a := by
  unfold State.stackStop
  by_cases h : a = s.dev.spAddr <;> simp [h]

@[simp] theorem State.progStop_none (s : State) (a : Word) : s.progStop a = none ↔ hasProgram s.dev a = true := by
  simp [State.progStop]

@[simp] theorem flagsStop_none (d : Byte) : flagsStop d = none ↔ d ≠ flagsAddr := by simp [flagsStop]

/-! What each reason to refuse can be. -/

theorem stopIf_some {b : Bool} {r r' : Refusal} (h : stopIf b r = some r') : r' = r := by
  unfold stopIf at h
  split at h
  · exact (Option.some.inj h).symm
  · cases h

theorem State.accessStop_some {s : State} {a : Byte} {r : Refusal} (h : s.accessStop a = some r) :
    r = .absentRegister := stopIf_some h

theorem State.useStop_some {s : State} {a : Byte} {r : Refusal} (h : s.useStop a = some r) :
    r = .absentRegister ∨ r = .deviceRegister := by
  unfold State.useStop at h
  split at h
  · exact .inr (stopIf_some h)
  · exact .inl (Option.some.inj h).symm

theorem State.pairStop_some {s : State} {a : Byte} {r : Refusal} (h : s.pairStop a = some r) :
    r = .oddPair ∨ r = .absentRegister ∨ r = .deviceRegister := by
  unfold State.pairStop at h
  split at h
  · exact .inl (Option.some.inj h).symm
  · cases h1 : s.useStop a with
    | none => rw [h1] at h; exact .inr (State.useStop_some h)
    | some r1 => rw [h1] at h; exact .inr (State.useStop_some (h1.trans h))

theorem State.stackStop_some {s : State} {a : Byte} {r : Refusal} (h : s.stackStop a = some r) :
    r = .stackOnSp ∨ r = .absentRegister ∨ r = .deviceRegister := by
  unfold State.stackStop at h
  split at h
  · exact .inl (Option.some.inj h).symm
  · exact .inr (State.useStop_some h)

theorem Loc.pointerStop_some {l : Loc} {s : State} {r : Refusal} (h : l.pointerStop s = some r) :
    r = .absentRegister ∨ r = .deviceRegister := by
  cases l with
  | r n => cases h
  | R b => cases h
  | Ir n => exact State.useStop_some h
  | IR b => exact State.useStop_some h
  | X o n => exact State.useStop_some h

theorem Src.stops_some {src : Src} {s : State} {r : Refusal} (h : some r ∈ src.stops s) :
    r = .absentRegister ∨ r = .deviceRegister := by
  cases src with
  | im v => cases h
  | loc l =>
    simp only [Src.stops, List.mem_cons, List.not_mem_nil, or_false] at h
    rcases h with h | h
    · exact Loc.pointerStop_some h.symm
    · exact .inl (State.accessStop_some h.symm)

/-- FLAGS itself is refused as the destination of a flag-affecting instruction (10_state.md R40). -/
theorem flagsStop_flags : flagsStop flagsAddr = some .flagsDestination := by decide

/-- A pointer gives no reason to refuse exactly when it is ordinary. -/
theorem Loc.pointerStop_none (l : Loc) (s : State) : l.pointerStop s = none ↔ l.pointerOk s := by
  cases l <;> simp only [Loc.pointerStop, Loc.pointerOk, State.useStop_none]

theorem Src.stops_noStop (src : Src) (s : State) : NoStop (src.stops s) ↔ src.readable s := by
  cases src <;> simp [Src.stops, Loc.pointerStop_none]

/-- Reading, or writing by a load, is refused nowhere exactly when the operand is accessible. -/
theorem Loc.accessStops_noStop (l : Loc) (s : State) :
    NoStop [l.pointerStop s, s.accessStop (l.address s)] ↔ l.accessible s := by
  simp [Loc.pointerStop_none]

theorem Loc.modifyStops_noStop (l : Loc) (s : State) : NoStop (l.modifyStops s) ↔ l.rewritable s := by
  simp [Loc.modifyStops, Loc.pointerStop_none]

/-- The pair of INCW and DECW: its second byte is never FLAGS, whose address is even. -/
theorem Loc.modifyPairStops_noStop (l : Loc) (s : State) :
    NoStop (l.modifyPairStops s) ↔ l.pointerOk s ∧ s.pairOk (l.address s) ∧ l.address s ≠ flagsAddr := by
  have h : ∀ a : Byte, a.getLsbD 0 = false → a + 1 ≠ flagsAddr := by decide
  simp only [Loc.modifyPairStops, noStop_cons, noStop_nil, and_true, Loc.pointerStop_none, State.pairStop_none, flagsStop_none]
  constructor
  · rintro ⟨h1, h2, h3, -⟩; exact ⟨h1, h2, h3⟩
  · rintro ⟨h1, h2, h3⟩; exact ⟨h1, h2, h3, h _ h2.1⟩

/-! ## Program memory -/

/-- A program read goes on exactly when the address is present and a byte was loaded there. -/
theorem State.withProgByte_next {s : State} {a : Word} {k : Byte → Result} {t : State} :
    s.withProgByte a k = .next t ↔ hasProgram s.dev a = true ∧ ∃ v, s.progByte a = some v ∧ k v = .next t := by
  unfold State.withProgByte
  rw [guarded_next]
  cases s.progByte a <;> simp

theorem State.withProgByte_some {s : State} {a : Word} {v : Byte} (hp : hasProgram s.dev a = true)
    (hv : s.progByte a = some v) (k : Byte → Result) : s.withProgByte a k = k v := by
  rw [State.withProgByte, guarded_of_noStop (by simpa using hp), hv]

/-- What a store to program memory can do (20_memory.md R66). -/
theorem State.storeProgByte_next {s : State} {a : Word} {v : Byte} {k : State → State} {t : State} :
    s.storeProgByte a v k = .next t ↔ hasProgram s.dev a = true ∧
      (s.dev.progWrite = .ignore ∧ k s = t ∨ s.dev.progWrite = .perform ∧ k (s.setProgByte a v) = t) := by
  unfold State.storeProgByte
  rw [guarded_next]
  cases s.dev.progWrite <;> simp

/-! ## Plain writes -/

/-- `x[b]` after a plain write of `x[a]`: a peripheral register is not stored to. -/
theorem State.reg_put (s : State) (a v b : Byte) :
    (s.put a v).reg b = if isDevice s.dev a = false ∧ b = a then v else s.reg b := by
  unfold State.put
  cases isDevice s.dev a <;> simp

theorem State.put_of_ordinary {s : State} {a : Byte} (h : isDevice s.dev a = false) (v : Byte) :
    s.put a v = s.setReg a v := by simp [State.put, h]

theorem State.put_of_device {s : State} {a : Byte} (h : isDevice s.dev a = true) (v : Byte) :
    s.put a v = s.emit (.deviceWrite a v) := by simp [State.put, h]

/-- Every field but `regs` and `emitted` after a plain write. -/
@[simp] theorem State.put_prog (s : State) (a v : Byte) : (s.put a v).prog = s.prog := by
  unfold State.put; split <;> rfl
@[simp] theorem State.put_pc (s : State) (a v : Byte) : (s.put a v).pc = s.pc := by
  unfold State.put; split <;> rfl
@[simp] theorem State.put_mode (s : State) (a v : Byte) : (s.put a v).mode = s.mode := by
  unfold State.put; split <;> rfl
@[simp] theorem State.put_pending (s : State) (a v : Byte) : (s.put a v).pending = s.pending := by
  unfold State.put; split <;> rfl
@[simp] theorem State.put_dev (s : State) (a v : Byte) : (s.put a v).dev = s.dev := by
  unfold State.put; split <;> rfl
@[simp] theorem State.put_script (s : State) (a v : Byte) : (s.put a v).script = s.script := by
  unfold State.put; split <;> rfl
@[simp] theorem State.put_executed (s : State) (a v : Byte) : (s.put a v).executed = s.executed := by
  unfold State.put; split <;> rfl
@[simp] theorem State.put_sinceRefresh (s : State) (a v : Byte) : (s.put a v).sinceRefresh = s.sinceRefresh := by
  unfold State.put; split <;> rfl
@[simp] theorem State.put_ended (s : State) (a v : Byte) : (s.put a v).ended = s.ended := by
  unfold State.put; split <;> rfl
@[simp] theorem State.put_progByte (s : State) (a v : Byte) (b : Word) : (s.put a v).progByte b = s.progByte b := by
  unfold State.put; split <;> rfl

theorem State.put_emitted (s : State) (a v : Byte) :
    (s.put a v).emitted = if isDevice s.dev a then s.emitted ++ [.deviceWrite a v] else s.emitted := by
  unfold State.put; split <;> rfl

/-! ## The instruction shapes: what each can do -/

/-- A load either is refused or puts the source value at the destination. -/
theorem load_next {dst : Loc} {src : Src} {length : Word} {s t : State} :
    load dst src length s = .next t ↔
      NoStop (src.stops s ++ [dst.pointerStop s, s.accessStop (dst.address s)]) ∧
        t = (s.put (dst.address s) (src.value s)).advance length := by
  unfold load; simp only [guarded_next, Host.Outcome.next.injEq, eq_comm (b := t)]

/-- The two-operand shape either is refused or writes result and flags. -/
theorem combine_next {f : Byte → Byte → Byte × FlagUpdate} {dst : Loc} {src : Src} {length : Word} {s t : State} :
    combine f dst src length s = .next t ↔
      NoStop (src.stops s ++ dst.modifyStops s) ∧
        t = (((s.setReg (dst.address s) (f (s.reg (dst.address s)) (src.value s)).1).updateFlags
          (f (s.reg (dst.address s)) (src.value s)).2).advance length) := by
  unfold combine; simp only [guarded_next, Host.Outcome.next.injEq, eq_comm (b := t)]

/-- The testing shape either is refused or writes flags only. -/
theorem testOperands_next {f : Byte → Byte → FlagUpdate} {dst : Loc} {src : Src} {length : Word} {s t : State} :
    testOperands f dst src length s = .next t ↔
      NoStop (src.stops s ++ [dst.pointerStop s, s.accessStop (dst.address s)]) ∧
        t = (s.updateFlags (f (s.plain 1 (dst.address s)) (src.value s))).advance length := by
  unfold testOperands; simp only [guarded_next, Host.Outcome.next.injEq, eq_comm (b := t)]

/-- The one-operand shape either is refused or writes result and flags. -/
theorem modify_next {f : Byte → Byte × FlagUpdate} {dst : Loc} {length : Word} {s t : State} :
    modify f dst length s = .next t ↔
      NoStop (dst.modifyStops s) ∧
        t = (((s.setReg (dst.address s) (f (s.reg (dst.address s))).1).updateFlags
          (f (s.reg (dst.address s))).2).advance length) := by
  unfold modify; simp only [guarded_next, Host.Outcome.next.injEq, eq_comm (b := t)]

/-- The word-operand shape either is refused or writes the pair and flags. -/
theorem modifyPair_next {f : Word → Word × FlagUpdate} {dst : Loc} {length : Word} {s t : State} :
    modifyPair f dst length s = .next t ↔
      NoStop (dst.modifyPairStops s) ∧
        t = (((s.setPair (dst.address s) (f (s.pair (dst.address s))).1).updateFlags
          (f (s.pair (dst.address s))).2).advance length) := by
  unfold modifyPair; simp only [guarded_next, Host.Outcome.next.injEq, eq_comm (b := t)]

/-- Interrupt entry either is refused, faults on its vector, or makes the frame and goes to the handler. -/
theorem State.interruptEntry_next {s t : State} {h : IrqHandler} :
    s.interruptEntry h = .next t ↔ NoStop s.interruptStops ∧
      match h with
      | .fixed a => t = s.interruptFrame.goto a
      | .vectored v => hasProgram s.dev v = true ∧ hasProgram s.dev (v + 1) = true ∧
          ∃ hi lo, s.progByte v = some hi ∧ s.progByte (v + 1) = some lo ∧
            t = s.interruptFrame.goto (joinBytes hi lo) := by
  unfold State.interruptEntry
  rw [guarded_next]
  cases h with
  | fixed a => simp only [Host.Outcome.next.injEq, eq_comm (b := t)]
  | vectored v =>
    simp only [State.withProgByte_next, Host.Outcome.next.injEq]
    constructor
    · rintro ⟨h0, h1, hi, h2, h3, lo, h4, h5⟩
      exact ⟨h0, h1, h3, hi, lo, h2, h4, h5.symm⟩
    · rintro ⟨h0, h1, h3, hi, lo, h2, h4, h5⟩
      exact ⟨h0, h1, hi, h2, h3, lo, h4, h5.symm⟩

/-! ## Interrupt entry, return and restart -/

@[simp] theorem State.interruptFrame_pc (s : State) : s.interruptFrame.pc = s.pc := by
  simp [State.interruptFrame, State.pushWord]
@[simp] theorem State.interruptFrame_prog (s : State) : s.interruptFrame.prog = s.prog := by
  simp [State.interruptFrame, State.pushWord]
@[simp] theorem State.interruptFrame_mode (s : State) : s.interruptFrame.mode = s.mode := by
  simp [State.interruptFrame, State.pushWord]
@[simp] theorem State.interruptFrame_pending (s : State) : s.interruptFrame.pending = s.pending := by
  simp [State.interruptFrame, State.pushWord]
@[simp] theorem State.interruptFrame_dev (s : State) : s.interruptFrame.dev = s.dev := by
  simp [State.interruptFrame, State.pushWord]
@[simp] theorem State.interruptFrame_script (s : State) : s.interruptFrame.script = s.script := by
  simp [State.interruptFrame, State.pushWord]
@[simp] theorem State.interruptFrame_emitted (s : State) : s.interruptFrame.emitted = s.emitted := by
  simp [State.interruptFrame, State.pushWord]
@[simp] theorem State.interruptFrame_executed (s : State) : s.interruptFrame.executed = s.executed := by
  simp [State.interruptFrame, State.pushWord]
@[simp] theorem State.interruptFrame_sinceRefresh (s : State) : s.interruptFrame.sinceRefresh = s.sinceRefresh := by
  simp [State.interruptFrame, State.pushWord]
@[simp] theorem State.interruptFrame_ended (s : State) : s.interruptFrame.ended = s.ended := by
  simp [State.interruptFrame, State.pushWord]
@[simp] theorem State.interruptFrame_progByte (s : State) (a : Word) : s.interruptFrame.progByte a = s.progByte a := by
  simp [State.progByte]

@[simp] theorem State.interruptReturn_prog (s : State) : s.interruptReturn.prog = s.prog := by
  simp [State.interruptReturn]
@[simp] theorem State.interruptReturn_mode (s : State) : s.interruptReturn.mode = s.mode := by
  simp [State.interruptReturn]
@[simp] theorem State.interruptReturn_pending (s : State) : s.interruptReturn.pending = s.pending := by
  simp [State.interruptReturn]
@[simp] theorem State.interruptReturn_dev (s : State) : s.interruptReturn.dev = s.dev := by
  simp [State.interruptReturn]
@[simp] theorem State.interruptReturn_script (s : State) : s.interruptReturn.script = s.script := by
  simp [State.interruptReturn]
@[simp] theorem State.interruptReturn_emitted (s : State) : s.interruptReturn.emitted = s.emitted := by
  simp [State.interruptReturn]
@[simp] theorem State.interruptReturn_executed (s : State) : s.interruptReturn.executed = s.executed := by
  simp [State.interruptReturn]
@[simp] theorem State.interruptReturn_sinceRefresh (s : State) : s.interruptReturn.sinceRefresh = s.sinceRefresh := by
  simp [State.interruptReturn]
@[simp] theorem State.interruptReturn_ended (s : State) : s.interruptReturn.ended = s.ended := by
  simp [State.interruptReturn]
@[simp] theorem State.interruptReturn_progByte (s : State) (a : Word) : s.interruptReturn.progByte a = s.progByte a := by
  simp [State.progByte]

@[simp] theorem State.restart_prog (s : State) : s.restart.prog = s.prog := rfl
@[simp] theorem State.restart_pc (s : State) : s.restart.pc = s.dev.resetPc := rfl
@[simp] theorem State.restart_mode (s : State) : s.restart.mode = .running := rfl
@[simp] theorem State.restart_pending (s : State) : s.restart.pending = [] := rfl
@[simp] theorem State.restart_dev (s : State) : s.restart.dev = s.dev := rfl
@[simp] theorem State.restart_script (s : State) : s.restart.script = s.script := rfl
@[simp] theorem State.restart_emitted (s : State) : s.restart.emitted = s.emitted := rfl
@[simp] theorem State.restart_executed (s : State) : s.restart.executed = s.executed := rfl
@[simp] theorem State.restart_sinceRefresh (s : State) : s.restart.sinceRefresh = 0 := rfl
@[simp] theorem State.restart_ended (s : State) : s.restart.ended = s.ended := rfl
@[simp] theorem State.restart_progByte (s : State) (a : Word) : s.restart.progByte a = s.progByte a := rfl

/-- The registers after a restart: RP, SP and IMR take the values this model names (log 4), all others stay. -/
theorem State.reg_restart (s : State) (a : Byte) :
    s.restart.reg a =
      if a = s.dev.spAddr then Config.restartSp
      else if a = rpAddr then Config.restartRp else if a = imrAddr then Config.restartImr else s.reg a := by
  show (((s.setImr Config.restartImr).setRp Config.restartRp).setSp Config.restartSp).reg a = _
  simp

/-! ## Reaching a boundary -/

@[simp] theorem State.latch_nil (s : State) : s.latch [] = s := rfl

theorem State.latch_append (s : State) (front back : List LineEvent) :
    s.latch (front ++ back) = (s.latch front).latch back := by
  induction front generalizing s with
  | nil => rfl
  | cons e front ih => cases e <;> exact ih _

/-- Requests and withdrawals change `pending` alone. -/
theorem State.latch_eq (s : State) (es : List LineEvent) : ∃ p, s.latch es = { s with pending := p } := by
  induction es generalizing s with
  | nil => exact ⟨s.pending, rfl⟩
  | cons e es ih => cases e with
    | request n =>
      obtain ⟨p, h⟩ := ih (s.request n)
      refine ⟨p, h.trans ?_⟩
      unfold State.request; split <;> rfl
    | withdraw n => exact ih (s.withdraw n)

/-- Reaching a boundary takes its entry from the script and changes `pending`, and nothing else. -/
theorem State.arrive_eq (s : State) : ∃ p, s.arrive = { s with script := s.script.tail, pending := p } :=
  State.latch_eq { s with script := s.script.tail } _

/-- A boundary without requests. -/
theorem State.arrive_of_quiet {s : State} (h : s.boundary.requests = []) :
    s.arrive = { s with script := s.script.tail } := by
  rw [State.arrive, h]; rfl

@[simp] theorem State.arrive_regs (s : State) : s.arrive.regs = s.regs := by
  obtain ⟨p, h⟩ := s.arrive_eq; rw [h]
@[simp] theorem State.arrive_prog (s : State) : s.arrive.prog = s.prog := by
  obtain ⟨p, h⟩ := s.arrive_eq; rw [h]
@[simp] theorem State.arrive_pc (s : State) : s.arrive.pc = s.pc := by
  obtain ⟨p, h⟩ := s.arrive_eq; rw [h]
@[simp] theorem State.arrive_mode (s : State) : s.arrive.mode = s.mode := by
  obtain ⟨p, h⟩ := s.arrive_eq; rw [h]
@[simp] theorem State.arrive_dev (s : State) : s.arrive.dev = s.dev := by
  obtain ⟨p, h⟩ := s.arrive_eq; rw [h]
@[simp] theorem State.arrive_emitted (s : State) : s.arrive.emitted = s.emitted := by
  obtain ⟨p, h⟩ := s.arrive_eq; rw [h]
@[simp] theorem State.arrive_executed (s : State) : s.arrive.executed = s.executed := by
  obtain ⟨p, h⟩ := s.arrive_eq; rw [h]
@[simp] theorem State.arrive_sinceRefresh (s : State) : s.arrive.sinceRefresh = s.sinceRefresh := by
  obtain ⟨p, h⟩ := s.arrive_eq; rw [h]
@[simp] theorem State.arrive_ended (s : State) : s.arrive.ended = s.ended := by
  obtain ⟨p, h⟩ := s.arrive_eq; rw [h]
@[simp] theorem State.arrive_script (s : State) : s.arrive.script = s.script.tail := by
  obtain ⟨p, h⟩ := s.arrive_eq; rw [h]
@[simp] theorem State.arrive_reg (s : State) (a : Byte) : s.arrive.reg a = s.reg a := by simp [State.reg]
@[simp] theorem State.arrive_progByte (s : State) (a : Word) : s.arrive.progByte a = s.progByte a := by
  simp [State.progByte]
@[simp] theorem State.arrive_wdtDue (s : State) : s.arrive.wdtDue = s.wdtDue := by simp [State.wdtDue, State.wdtRuns]

/-- A halted or stopped machine changes nothing but the watch-dog's count. -/
theorem State.idle_eq (s : State) :
    s.idle = { s with sinceRefresh := s.idle.sinceRefresh } ∧
      s.sinceRefresh ≤ s.idle.sinceRefresh ∧ s.idle.sinceRefresh ≤ s.sinceRefresh + 1 := by
  unfold State.idle
  split
  · exact ⟨rfl, Nat.le_refl _, Nat.le_succ _⟩
  · split
    · exact ⟨rfl, Nat.le_succ _, Nat.le_refl _⟩
    · exact ⟨rfl, Nat.le_refl _, Nat.le_succ _⟩

/-! ## FLAGS -/

/-- Where each flag stands in FLAGS (10_state.md R31). -/
theorem packFlags_bits (c z s v d h wdt smr : Bool) :
    flagC (packFlags c z s v d h wdt smr) = c ∧ flagZ (packFlags c z s v d h wdt smr) = z ∧
      flagS (packFlags c z s v d h wdt smr) = s ∧ flagV (packFlags c z s v d h wdt smr) = v ∧
      flagD (packFlags c z s v d h wdt smr) = d ∧ flagH (packFlags c z s v d h wdt smr) = h ∧
      flagWdt (packFlags c z s v d h wdt smr) = wdt ∧ flagSmr (packFlags c z s v d h wdt smr) = smr := by
  revert c z s v d h wdt smr; decide

/-- FLAGS is its eight flags. -/
theorem packFlags_self (f : Byte) :
    packFlags (flagC f) (flagZ f) (flagS f) (flagV f) (flagD f) (flagH f) (flagWdt f) (flagSmr f) = f := by
  revert f; decide

end Sys2Proof.Machine
end

