-- ==== Sys2Proof/Laws/PerInstr.lean ====
section
/-! SUPPORT. One lemma for each instruction: its encoding has the length that the fetch takes from its first byte
(30_encoding.md R92, R120). -/

namespace Sys2Proof.Laws.EncodedLength

/-- The encoding is not empty, and its first byte says how many bytes the fetch takes. -/
def Statement (i : Instr) : Prop :=
  match encode i with
  | [] => False
  | b :: bs => opLength b = bs.length + 1

/-- The columns with a register number in the op code, two bytes long. -/
theorem opLength_working (n : Nibble) :
    opLength (joinNibbles n 0x8#4) = 2 ∧ opLength (joinNibbles n 0x9#4) = 2 ∧ opLength (joinNibbles n 0xA#4) = 2 ∧
      opLength (joinNibbles n 0xC#4) = 2 ∧ opLength (joinNibbles n 0xE#4) = 1 := by
  revert n; decide

/-- The columns with a condition code in the op code. -/
theorem opLength_condition (cc : Cond) :
    opLength (joinNibbles cc.bits 0xB#4) = 2 ∧ opLength (joinNibbles cc.bits 0xD#4) = 3 := by
  cases cc <;> decide

theorem add_r_r (dst : Nibble) (src : Nibble) : Statement (.add_r_r dst src) := rfl
theorem add_r_Ir (dst : Nibble) (src : Nibble) : Statement (.add_r_Ir dst src) := rfl
theorem add_R_R (dst : Byte) (src : Byte) : Statement (.add_R_R dst src) := rfl
theorem add_R_IR (dst : Byte) (src : Byte) : Statement (.add_R_IR dst src) := rfl
theorem add_R_IM (dst : Byte) (imm : Byte) : Statement (.add_R_IM dst imm) := rfl
theorem add_IR_IM (dst : Byte) (imm : Byte) : Statement (.add_IR_IM dst imm) := rfl
theorem adc_r_r (dst : Nibble) (src : Nibble) : Statement (.adc_r_r dst src) := rfl
theorem adc_r_Ir (dst : Nibble) (src : Nibble) : Statement (.adc_r_Ir dst src) := rfl
theorem adc_R_R (dst : Byte) (src : Byte) : Statement (.adc_R_R dst src) := rfl
theorem adc_R_IR (dst : Byte) (src : Byte) : Statement (.adc_R_IR dst src) := rfl
theorem adc_R_IM (dst : Byte) (imm : Byte) : Statement (.adc_R_IM dst imm) := rfl
theorem adc_IR_IM (dst : Byte) (imm : Byte) : Statement (.adc_IR_IM dst imm) := rfl
theorem sub_r_r (dst : Nibble) (src : Nibble) : Statement (.sub_r_r dst src) := rfl
theorem sub_r_Ir (dst : Nibble) (src : Nibble) : Statement (.sub_r_Ir dst src) := rfl
theorem sub_R_R (dst : Byte) (src : Byte) : Statement (.sub_R_R dst src) := rfl
theorem sub_R_IR (dst : Byte) (src : Byte) : Statement (.sub_R_IR dst src) := rfl
theorem sub_R_IM (dst : Byte) (imm : Byte) : Statement (.sub_R_IM dst imm) := rfl
theorem sub_IR_IM (dst : Byte) (imm : Byte) : Statement (.sub_IR_IM dst imm) := rfl
theorem sbc_r_r (dst : Nibble) (src : Nibble) : Statement (.sbc_r_r dst src) := rfl
theorem sbc_r_Ir (dst : Nibble) (src : Nibble) : Statement (.sbc_r_Ir dst src) := rfl
theorem sbc_R_R (dst : Byte) (src : Byte) : Statement (.sbc_R_R dst src) := rfl
theorem sbc_R_IR (dst : Byte) (src : Byte) : Statement (.sbc_R_IR dst src) := rfl
theorem sbc_R_IM (dst : Byte) (imm : Byte) : Statement (.sbc_R_IM dst imm) := rfl
theorem sbc_IR_IM (dst : Byte) (imm : Byte) : Statement (.sbc_IR_IM dst imm) := rfl
theorem or_r_r (dst : Nibble) (src : Nibble) : Statement (.or_r_r dst src) := rfl
theorem or_r_Ir (dst : Nibble) (src : Nibble) : Statement (.or_r_Ir dst src) := rfl
theorem or_R_R (dst : Byte) (src : Byte) : Statement (.or_R_R dst src) := rfl
theorem or_R_IR (dst : Byte) (src : Byte) : Statement (.or_R_IR dst src) := rfl
theorem or_R_IM (dst : Byte) (imm : Byte) : Statement (.or_R_IM dst imm) := rfl
theorem or_IR_IM (dst : Byte) (imm : Byte) : Statement (.or_IR_IM dst imm) := rfl
theorem and_r_r (dst : Nibble) (src : Nibble) : Statement (.and_r_r dst src) := rfl
theorem and_r_Ir (dst : Nibble) (src : Nibble) : Statement (.and_r_Ir dst src) := rfl
theorem and_R_R (dst : Byte) (src : Byte) : Statement (.and_R_R dst src) := rfl
theorem and_R_IR (dst : Byte) (src : Byte) : Statement (.and_R_IR dst src) := rfl
theorem and_R_IM (dst : Byte) (imm : Byte) : Statement (.and_R_IM dst imm) := rfl
theorem and_IR_IM (dst : Byte) (imm : Byte) : Statement (.and_IR_IM dst imm) := rfl
theorem tcm_r_r (dst : Nibble) (src : Nibble) : Statement (.tcm_r_r dst src) := rfl
theorem tcm_r_Ir (dst : Nibble) (src : Nibble) : Statement (.tcm_r_Ir dst src) := rfl
theorem tcm_R_R (dst : Byte) (src : Byte) : Statement (.tcm_R_R dst src) := rfl
theorem tcm_R_IR (dst : Byte) (src : Byte) : Statement (.tcm_R_IR dst src) := rfl
theorem tcm_R_IM (dst : Byte) (imm : Byte) : Statement (.tcm_R_IM dst imm) := rfl
theorem tcm_IR_IM (dst : Byte) (imm : Byte) : Statement (.tcm_IR_IM dst imm) := rfl
theorem tm_r_r (dst : Nibble) (src : Nibble) : Statement (.tm_r_r dst src) := rfl
theorem tm_r_Ir (dst : Nibble) (src : Nibble) : Statement (.tm_r_Ir dst src) := rfl
theorem tm_R_R (dst : Byte) (src : Byte) : Statement (.tm_R_R dst src) := rfl
theorem tm_R_IR (dst : Byte) (src : Byte) : Statement (.tm_R_IR dst src) := rfl
theorem tm_R_IM (dst : Byte) (imm : Byte) : Statement (.tm_R_IM dst imm) := rfl
theorem tm_IR_IM (dst : Byte) (imm : Byte) : Statement (.tm_IR_IM dst imm) := rfl
theorem cp_r_r (dst : Nibble) (src : Nibble) : Statement (.cp_r_r dst src) := rfl
theorem cp_r_Ir (dst : Nibble) (src : Nibble) : Statement (.cp_r_Ir dst src) := rfl
theorem cp_R_R (dst : Byte) (src : Byte) : Statement (.cp_R_R dst src) := rfl
theorem cp_R_IR (dst : Byte) (src : Byte) : Statement (.cp_R_IR dst src) := rfl
theorem cp_R_IM (dst : Byte) (imm : Byte) : Statement (.cp_R_IM dst imm) := rfl
theorem cp_IR_IM (dst : Byte) (imm : Byte) : Statement (.cp_IR_IM dst imm) := rfl
theorem xor_r_r (dst : Nibble) (src : Nibble) : Statement (.xor_r_r dst src) := rfl
theorem xor_r_Ir (dst : Nibble) (src : Nibble) : Statement (.xor_r_Ir dst src) := rfl
theorem xor_R_R (dst : Byte) (src : Byte) : Statement (.xor_R_R dst src) := rfl
theorem xor_R_IR (dst : Byte) (src : Byte) : Statement (.xor_R_IR dst src) := rfl
theorem xor_R_IM (dst : Byte) (imm : Byte) : Statement (.xor_R_IM dst imm) := rfl
theorem xor_IR_IM (dst : Byte) (imm : Byte) : Statement (.xor_IR_IM dst imm) := rfl
theorem dec_R (b : Byte) : Statement (.dec_R b) := rfl
theorem dec_IR (b : Byte) : Statement (.dec_IR b) := rfl
theorem rlc_R (b : Byte) : Statement (.rlc_R b) := rfl
theorem rlc_IR (b : Byte) : Statement (.rlc_IR b) := rfl
theorem inc_R (b : Byte) : Statement (.inc_R b) := rfl
theorem inc_IR (b : Byte) : Statement (.inc_IR b) := rfl
theorem da_R (b : Byte) : Statement (.da_R b) := rfl
theorem da_IR (b : Byte) : Statement (.da_IR b) := rfl
theorem pop_R (b : Byte) : Statement (.pop_R b) := rfl
theorem pop_IR (b : Byte) : Statement (.pop_IR b) := rfl
theorem com_R (b : Byte) : Statement (.com_R b) := rfl
theorem com_IR (b : Byte) : Statement (.com_IR b) := rfl
theorem push_R (b : Byte) : Statement (.push_R b) := rfl
theorem push_IR (b : Byte) : Statement (.push_IR b) := rfl
theorem decw_RR (b : Byte) : Statement (.decw_RR b) := rfl
theorem decw_IR (b : Byte) : Statement (.decw_IR b) := rfl
theorem rl_R (b : Byte) : Statement (.rl_R b) := rfl
theorem rl_IR (b : Byte) : Statement (.rl_IR b) := rfl
theorem incw_RR (b : Byte) : Statement (.incw_RR b) := rfl
theorem incw_IR (b : Byte) : Statement (.incw_IR b) := rfl
theorem clr_R (b : Byte) : Statement (.clr_R b) := rfl
theorem clr_IR (b : Byte) : Statement (.clr_IR b) := rfl
theorem rrc_R (b : Byte) : Statement (.rrc_R b) := rfl
theorem rrc_IR (b : Byte) : Statement (.rrc_IR b) := rfl
theorem sra_R (b : Byte) : Statement (.sra_R b) := rfl
theorem sra_IR (b : Byte) : Statement (.sra_IR b) := rfl
theorem rr_R (b : Byte) : Statement (.rr_R b) := rfl
theorem rr_IR (b : Byte) : Statement (.rr_IR b) := rfl
theorem swap_R (b : Byte) : Statement (.swap_R b) := rfl
theorem swap_IR (b : Byte) : Statement (.swap_IR b) := rfl
theorem jp_IRR (b : Byte) : Statement (.jp_IRR b) := rfl
theorem srp_IM (imm : Byte) : Statement (.srp_IM imm) := rfl
theorem ldc_r_Irr (dst : Nibble) (p : Nibble) : Statement (.ldc_r_Irr dst p) := rfl
theorem ldci_Ir_Irr (n : Nibble) (p : Nibble) : Statement (.ldci_Ir_Irr n p) := rfl
theorem ld_r_X (dst : Nibble) (x : Nibble) (base : Byte) : Statement (.ld_r_X dst x base) := rfl
theorem ldc_Irr_r (hi : Nibble) (lo : Nibble) : Statement (.ldc_Irr_r hi lo) := rfl
theorem ldci_Irr_Ir (hi : Nibble) (lo : Nibble) : Statement (.ldci_Irr_Ir hi lo) := rfl
theorem call_IRR (b : Byte) : Statement (.call_IRR b) := rfl
theorem call_DA (target : Word) : Statement (.call_DA target) := rfl
theorem ld_X_r (src : Nibble) (x : Nibble) (base : Byte) : Statement (.ld_X_r src x base) := rfl
theorem ld_r_Ir (dst : Nibble) (src : Nibble) : Statement (.ld_r_Ir dst src) := rfl
theorem ld_R_R (dst : Byte) (src : Byte) : Statement (.ld_R_R dst src) := rfl
theorem ld_R_IR (dst : Byte) (src : Byte) : Statement (.ld_R_IR dst src) := rfl
theorem ld_R_IM (dst : Byte) (imm : Byte) : Statement (.ld_R_IM dst imm) := rfl
theorem ld_IR_IM (dst : Byte) (imm : Byte) : Statement (.ld_IR_IM dst imm) := rfl
theorem ld_Ir_r (dst : Nibble) (src : Nibble) : Statement (.ld_Ir_r dst src) := rfl
theorem ld_IR_R (dst : Byte) (src : Byte) : Statement (.ld_IR_R dst src) := rfl
theorem wdt : Statement .wdt := rfl
theorem stop : Statement .stop := rfl
theorem halt : Statement .halt := rfl
theorem di : Statement .di := rfl
theorem ei : Statement .ei := rfl
theorem ret : Statement .ret := rfl
theorem iret : Statement .iret := rfl
theorem rcf : Statement .rcf := rfl
theorem scf : Statement .scf := rfl
theorem ccf : Statement .ccf := rfl
theorem nop : Statement .nop := rfl
theorem ld_r_R (dst : Nibble) (src : Byte) : Statement (.ld_r_R dst src) := (opLength_working dst).1
theorem ld_R_r (dst : Byte) (src : Nibble) : Statement (.ld_R_r dst src) := (opLength_working src).2.1
theorem djnz_r_RA (n : Nibble) (offset : Byte) : Statement (.djnz_r_RA n offset) := (opLength_working n).2.2.1
theorem jr_cc_RA (cc : Cond) (offset : Byte) : Statement (.jr_cc_RA cc offset) := (opLength_condition cc).1
theorem ld_r_IM (dst : Nibble) (imm : Byte) : Statement (.ld_r_IM dst imm) := (opLength_working dst).2.2.2.1
theorem jp_cc_DA (cc : Cond) (target : Word) : Statement (.jp_cc_DA cc target) := (opLength_condition cc).2
theorem inc_r (dst : Nibble) : Statement (.inc_r dst) := (opLength_working dst).2.2.2.2
theorem reserved_0F : Statement .reserved_0F := rfl
theorem reserved_1F : Statement .reserved_1F := rfl
theorem reserved_2F : Statement .reserved_2F := rfl
theorem reserved_3F : Statement .reserved_3F := rfl
theorem reserved_4F : Statement .reserved_4F := rfl
theorem reserved_82 : Statement .reserved_82 := rfl
theorem reserved_83 : Statement .reserved_83 := rfl
theorem reserved_84 : Statement .reserved_84 := rfl
theorem reserved_85 : Statement .reserved_85 := rfl
theorem reserved_86 : Statement .reserved_86 := rfl
theorem reserved_87 : Statement .reserved_87 := rfl
theorem reserved_92 : Statement .reserved_92 := rfl
theorem reserved_93 : Statement .reserved_93 := rfl
theorem reserved_94 : Statement .reserved_94 := rfl
theorem reserved_95 : Statement .reserved_95 := rfl
theorem reserved_96 : Statement .reserved_96 := rfl
theorem reserved_97 : Statement .reserved_97 := rfl
theorem reserved_C4 : Statement .reserved_C4 := rfl
theorem reserved_C5 : Statement .reserved_C5 := rfl
theorem reserved_C6 : Statement .reserved_C6 := rfl
theorem reserved_D5 : Statement .reserved_D5 := rfl
theorem reserved_E2 : Statement .reserved_E2 := rfl
theorem reserved_F2 : Statement .reserved_F2 := rfl
theorem reserved_F4 : Statement .reserved_F4 := rfl
theorem reserved_F6 : Statement .reserved_F6 := rfl
theorem reserved_F7 : Statement .reserved_F7 := rfl

end Sys2Proof.Laws.EncodedLength
end

