-- ==== Sys2Proof/Laws/WellFormedState.lean ====
section
/-! SUPPORT. Every operation on the memories keeps their canonical form, and the state after reset has it. -/

namespace Sys2Proof.Machine

theorem State.reset_regs_wf : Memory.wf regFill 256 State.reset.regs := by decide

theorem State.reset_prog_wf : Memory.wf progFill 65536 State.reset.prog := by decide

variable {s : State}

theorem State.wf_setReg (h : s.wf) (a v : Byte) : (s.setReg a v).wf :=
  ⟨Memory.wf_write h.1 a.isLt v, h.2⟩

theorem State.wf_setProgByte (h : s.wf) (a : Word) (v : Byte) : (s.setProgByte a v).wf :=
  ⟨h.1, Memory.wf_write h.2.1 a.isLt v, h.2.2⟩

theorem State.wf_loadProgram (h : s.wf) (a : Word) (bs : List Byte) : (s.loadProgram a bs).wf := by
  induction bs generalizing s a with
  | nil => exact h
  | cons b bs ih => exact ih (State.wf_setProgByte h a b) (a + 1)

theorem State.wf_setFlags (h : s.wf) (v : Byte) : (s.setFlags v).wf := State.wf_setReg h _ v

theorem State.wf_setRp (h : s.wf) (v : Byte) : (s.setRp v).wf := State.wf_setReg h _ v

theorem State.wf_setImr (h : s.wf) (v : Byte) : (s.setImr v).wf := State.wf_setReg h _ v

theorem State.wf_setSp (h : s.wf) (v : Byte) : (s.setSp v).wf := State.wf_setReg h _ v

theorem State.wf_updateFlags (h : s.wf) (u : FlagUpdate) : (s.updateFlags u).wf := State.wf_setReg h _ _

theorem State.wf_setPair (h : s.wf) (a : Byte) (v : Word) : (s.setPair a v).wf :=
  State.wf_setReg (State.wf_setReg h _ _) _ _

theorem State.wf_put (h : s.wf) (a v : Byte) : (s.put a v).wf := by
  unfold State.put
  split
  · exact h
  · exact State.wf_setReg h a v

theorem State.wf_pushWord (h : s.wf) (v : Word) : (s.pushWord v).wf :=
  State.wf_setReg (State.wf_setReg (State.wf_setSp h _) _ _) _ _

theorem State.wf_interruptFrame (h : s.wf) : s.interruptFrame.wf :=
  State.wf_setImr (State.wf_setReg (State.wf_setSp (State.wf_pushWord h _) _) _ _) _

theorem State.wf_goto (h : s.wf) (a : Word) : (s.goto a).wf := h

theorem State.wf_emit (h : s.wf) (e : Emission) : (s.emit e).wf := h

theorem State.wf_restart (h : s.wf) : s.restart.wf :=
  have h' := State.wf_setSp (State.wf_setRp (State.wf_setImr h Config.restartImr) Config.restartRp) Config.restartSp
  ⟨h'.1, h.2.1, List.nodup_nil, by simp⟩

theorem State.wf_request (h : s.wf) (n : Nat) : (s.request n).wf := by
  unfold State.request
  split
  · exact h
  · rename_i hn
    simp only [Bool.or_eq_true, Bool.not_eq_true', not_or, Bool.not_eq_false, List.contains_iff_mem] at hn
    refine ⟨h.1, h.2.1, List.nodup_append.mpr ⟨h.2.2.1, by simp, fun a ha b hb e => hn.2 ?_⟩, fun m hm => ?_⟩
    · obtain rfl : b = n := by simpa using hb
      exact e ▸ ha
    · rcases List.mem_append.mp hm with hm | hm
      · exact h.2.2.2 m hm
      · obtain rfl : m = n := by simpa using hm
        exact hn.1

theorem State.wf_withdraw (h : s.wf) (n : Nat) : (s.withdraw n).wf :=
  ⟨h.1, h.2.1, h.2.2.1.sublist List.filter_sublist, fun m hm => h.2.2.2 m (List.mem_of_mem_filter hm)⟩

theorem State.wf_latch (h : s.wf) (es : List LineEvent) : (s.latch es).wf := by
  induction es generalizing s with
  | nil => exact h
  | cons e es ih => cases e with
    | request n => exact ih (State.wf_request h n)
    | withdraw n => exact ih (State.wf_withdraw h n)

theorem State.wf_arrive (h : s.wf) : s.arrive.wf := State.wf_latch (s := { s with script := s.script.tail }) h _

theorem State.wf_interruptReturn (h : s.wf) : s.interruptReturn.wf := by
  unfold State.interruptReturn
  exact State.wf_goto (State.wf_setImr (State.wf_setSp (State.wf_setSp (State.wf_setFlags h _) _) _) _) _

end Sys2Proof.Machine
end

