-- ==== Sys2Proof/Laws/Step.lean ====
section
/-! SUPPORT. What a step can do, said once: a statement about every step is a short case analysis over `step_next`. -/

namespace Sys2Proof.Machine

variable {s t : State}

/-- Fetched bytes go on to a next state only through the continuation. -/
theorem fetchBytes_next {n : Nat} {a : Word} {k : List Byte → Result} (h : fetchBytes s n a k = .next t) :
    ∃ bs, k bs = .next t := by
  induction n generalizing a k with
  | zero => exact ⟨[], h⟩
  | succ n ih =>
    obtain ⟨-, b, -, hb⟩ := State.withProgByte_next.mp h
    obtain ⟨bs, hbs⟩ := ih hb
    exact ⟨b :: bs, hbs⟩

/-- A fetch that goes on to a next state executes some instruction at the state itself, counted. -/
theorem State.runInstruction_next (h : s.runInstruction = .next t) : ∃ i, exec i s.countInstruction = .next t := by
  obtain ⟨-, b, -, hb⟩ := State.withProgByte_next.mp h
  obtain ⟨bs, hbs⟩ := fetchBytes_next hb
  exact ⟨_, hbs⟩

/-- A watch-dog timeout goes on exactly when WDTF is clear (60_exceptions.md R324). -/
theorem State.wdtTimeout_next :
    s.wdtTimeout = .next t ↔ flagWdt s.flags = false ∧ t = (s.setFlags (s.flags ||| 0x02#8)).restart := by
  unfold State.wdtTimeout
  rw [guarded_next]
  simp only [noStop_cons, stopIf_none, noStop_nil, and_true, Host.Outcome.next.injEq, eq_comm (b := t)]

/-- Interrupt entry keeps the canonical form. -/
theorem State.wf_interruptEntry (hw : s.wf) {h : IrqHandler} (he : s.interruptEntry h = .next t) : t.wf := by
  obtain ⟨-, he⟩ := State.interruptEntry_next.mp he
  cases h with
  | fixed a => exact he ▸ State.wf_goto (State.wf_interruptFrame hw) a
  | vectored v =>
    obtain ⟨-, -, hi, lo, -, -, he⟩ := he
    exact he ▸ State.wf_goto (State.wf_interruptFrame hw) _

theorem State.wf_takeInterrupt (hw : s.wf) {src : IrqSource} (h : s.takeInterrupt src = .next t) : t.wf :=
  State.wf_interruptEntry (s := { s with pending := s.pending.filter (· ≠ src.name), mode := .running })
    ⟨hw.1, hw.2.1, (State.wf_withdraw hw src.name).2.2⟩ h

/-- Where the environment delivers no restart, what follows a restart check is what would follow without it. -/
theorem State.restartOr_of_none {b : Boundary} {go : State → Result} (h1 : b.resetPin = false)
    (h2 : s.wdtDue = false ∨ b.wdtHeld = true) (h3 : b.stopRecovery = false ∨ s.mode ≠ .stopped) :
    s.restartOr b go = go s := by
  unfold State.restartOr
  rcases h2 with h2 | h2 <;> rcases h3 with h3 | h3 <;> simp [h1, h2, h3]

/-- A step of a run that has not ended, at a boundary without a restart. -/
theorem step_of_noRestart (he : s.ended = false) (h : s.noRestart) : step s = s.arrive.proceed := by
  unfold step
  rw [if_neg (by simp [he])]
  exact State.restartOr_of_none h.1 (by simpa using h.2.1) (by simpa using h.2.2)

/-- A running machine with no interrupt to take, not at `END_PC`, runs an instruction. -/
theorem State.proceed_running (hi : s.interruptDue = none) (hm : s.mode = .running) (he : s.atEnd = false) :
    s.proceed = s.runInstruction := by
  unfold State.proceed
  simp [hi, hm, he]

/-- A boundary at which nothing comes before the next instruction. -/
theorem step_of_undisturbed (h : s.undisturbed) :
    step s = State.runInstruction { s with script := s.script.tail } := by
  obtain ⟨hm, hb, hw, hi, he, hr⟩ := h
  rw [step_of_noRestart hr ⟨by rw [hb], .inl hw, .inl (by rw [hb])⟩, State.arrive_of_quiet (by rw [hb])]
  exact State.proceed_running hi hm he

/-- Everything a step can do: nothing, when the run has ended; a restart by one of its causes; an interrupt entry;
nothing but the watch-dog's count, when the machine is halted or stopped; the end of the run; or an instruction. -/
theorem step_next (h : step s = .next t) :
    (s.ended = true ∧ t = s) ∨
    (s.ended = false ∧
      ((s.boundary.resetPin = true ∧ t = s.arrive.resetPin) ∨
        (s.wdtDue = true ∧ flagWdt s.flags = false ∧ t = (s.arrive.setFlags (s.flags ||| 0x02#8)).restart) ∨
        (s.boundary.stopRecovery = true ∧ s.mode = .stopped ∧ t = s.arrive.restart) ∨
        (∃ src, s.arrive.interruptDue = some src ∧ s.arrive.takeInterrupt src = .next t) ∨
        (s.mode ≠ .running ∧ t = s.arrive.idle) ∨
        (s.mode = .running ∧ s.dev.endPc = some s.pc ∧ t = s.arrive.finish) ∨
        (s.mode = .running ∧ ∃ i, exec i s.arrive.countInstruction = .next t))) := by
  unfold step at h
  split at h
  · rename_i he
    exact .inl ⟨he, by simpa using h.symm⟩
  · rename_i he
    refine .inr ⟨by simpa using he, ?_⟩
    unfold State.restartOr at h
    split at h
    · rename_i h1
      exact .inl ⟨h1, by simpa using h.symm⟩
    split at h
    · rename_i h2
      obtain ⟨h3, h4⟩ := State.wdtTimeout_next.mp h
      refine .inr (.inl ⟨by simp at h2; exact h2.1, by simpa [State.flags] using h3, ?_⟩)
      rw [h4]; simp [State.flags]
    split at h
    · rename_i h3
      simp only [Bool.and_eq_true, decide_eq_true_eq, State.arrive_mode] at h3
      exact .inr (.inr (.inl ⟨h3.1, h3.2, by simpa [State.stopRecovery] using h.symm⟩))
    unfold State.proceed at h
    split at h
    · rename_i src h4
      exact .inr (.inr (.inr (.inl ⟨src, h4, h⟩)))
    split at h
    · rename_i hm
      rw [State.arrive_mode] at hm
      split at h
      · rename_i h5
        simp only [State.atEnd, State.arrive_dev, State.arrive_pc, beq_iff_eq] at h5
        exact .inr (.inr (.inr (.inr (.inr (.inl ⟨hm, h5, by simpa using h.symm⟩)))))
      · exact .inr (.inr (.inr (.inr (.inr (.inr ⟨hm, State.runInstruction_next h⟩)))))
    · rename_i hm
      rw [State.arrive_mode] at hm
      exact .inr (.inr (.inr (.inr (.inl ⟨by simp [hm], by simpa using h.symm⟩))))
    · rename_i hm
      rw [State.arrive_mode] at hm
      exact .inr (.inr (.inr (.inr (.inl ⟨by simp [hm], by simpa using h.symm⟩))))

end Sys2Proof.Machine
end

