-- ==== Sys2Proof/Tests/Slice0.lean ====
section
/-! SUPPORT. The model's own tests: ill-formed instructions are refused by `Instr.wellFormed`, words written out from the op
code map decode to what the map says, one or two of the spec's own vectors (95_test_vectors.md) for each mnemonic and
event, and a witness for every obligation that has hypotheses. -/

namespace Sys2Proof.Tests

open Sys2Proof.Machine

/-! ## Helpers -/

/-- A state of a device: registers written, an instruction at 0100H, further program bytes. -/
def start (d : Device) (regs : List (Byte × Byte)) (code : List Byte) (more : List (Word × Byte)) : State :=
  let s := regs.foldl (fun s c => s.setReg c.1 c.2) { State.reset with dev := d, pc := 0x0100#16 }
  (more.foldl (fun s c => s.setProgByte c.1 c.2) s).loadProgram 0x0100#16 code

/-- One step goes on to a state with the property. -/
def runs (p : State → Bool) (s : State) : Bool :=
  match step s with
  | .next t => p t
  | .fault _ => false
  | .refused _ => false

/-- One step is refused for this reason. -/
def refuses (r : Refusal) (s : State) : Bool :=
  match step s with
  | .next _ => false
  | .fault _ => false
  | .refused q => decide (q = r)

/-- FLAGS bits 7 to 2: C Z S V D H. -/
def six (t : State) : BitVec 6 := t.flags.extractLsb' 2 6

/-- These bytes are this instruction and nothing is left. -/
def decodesTo (bs : List Byte) (i : Instr) : Bool :=
  match decode bs with
  | .ok (j, rest) => decide (j = i) && rest.isEmpty
  | .error _ => false

def decodesAll (l : List (List Byte × Instr)) : Bool := l.all fun c => decodesTo c.1 c.2

/-! ## Well-formedness: one ill-formed term for each check -/

theorem test_illFormed_decw_RR : (Instr.decw_RR 0x43#8).wellFormed .dstSrc = false := by decide
theorem test_illFormed_incw_RR : (Instr.incw_RR 0xE5#8).wellFormed .dstSrc = false := by decide
theorem test_illFormed_jp_IRR : (Instr.jp_IRR 0x01#8).wellFormed .dstSrc = false := by decide
theorem test_illFormed_call_IRR : (Instr.call_IRR 0xFF#8).wellFormed .dstSrc = false := by decide
theorem test_illFormed_ldc_r_Irr : (Instr.ldc_r_Irr 2#4 3#4).wellFormed .dstSrc = false := by decide
theorem test_illFormed_ldci_Ir_Irr : (Instr.ldci_Ir_Irr 2#4 3#4).wellFormed .dstSrc = false := by decide
theorem test_illFormed_ldc_Irr_r :
    (Instr.ldc_Irr_r 3#4 2#4).wellFormed .dstSrc = false ∧ (Instr.ldc_Irr_r 2#4 3#4).wellFormed .srcDst = false := by
  decide
theorem test_illFormed_ldci_Irr_Ir :
    (Instr.ldci_Irr_Ir 3#4 2#4).wellFormed .dstSrc = false ∧ (Instr.ldci_Irr_Ir 2#4 3#4).wellFormed .srcDst = false := by
  decide
theorem test_wellFormed_decw_RR : (Instr.decw_RR 0xE4#8).wellFormed .dstSrc = true := by decide

/-! ## Decoding: words written out from the op code map (30_encoding.md R100) -/

/-- No bytes, and a byte string that ends before its operands, are refused by name. -/
theorem test_decode_short :
    (match decode [] with | .error e => decide (e = .noOpcode) | .ok _ => false) = true ∧
      (match decode [0x04#8, 0x08#8] with | .error e => decide (e = .missingOperand) | .ok _ => false) = true := by
  decide

/-- The op code table numbers the first byte's bits from 0. -/
theorem test_decodeTableWord : decodeTableWord 24 0x430804 = some (.add_R_R 0x43#8 0x08#8) := by decide

theorem test_decode_add : decodesAll [
    ([0x02#8, 0x12#8], .add_r_r 0x1#4 0x2#4),
    ([0x03#8, 0x12#8], .add_r_Ir 0x1#4 0x2#4),
    ([0x04#8, 0x08#8, 0x43#8], .add_R_R 0x43#8 0x08#8),
    ([0x05#8, 0x08#8, 0x43#8], .add_R_IR 0x43#8 0x08#8),
    ([0x06#8, 0x43#8, 0x5A#8], .add_R_IM 0x43#8 0x5A#8),
    ([0x07#8, 0x43#8, 0x5A#8], .add_IR_IM 0x43#8 0x5A#8)] = true := by decide

theorem test_decode_adc : decodesAll [
    ([0x12#8, 0x12#8], .adc_r_r 0x1#4 0x2#4),
    ([0x13#8, 0x12#8], .adc_r_Ir 0x1#4 0x2#4),
    ([0x14#8, 0x08#8, 0x43#8], .adc_R_R 0x43#8 0x08#8),
    ([0x15#8, 0x08#8, 0x43#8], .adc_R_IR 0x43#8 0x08#8),
    ([0x16#8, 0x43#8, 0x5A#8], .adc_R_IM 0x43#8 0x5A#8),
    ([0x17#8, 0x43#8, 0x5A#8], .adc_IR_IM 0x43#8 0x5A#8)] = true := by decide

theorem test_decode_sub : decodesAll [
    ([0x22#8, 0x12#8], .sub_r_r 0x1#4 0x2#4),
    ([0x23#8, 0x12#8], .sub_r_Ir 0x1#4 0x2#4),
    ([0x24#8, 0x08#8, 0x43#8], .sub_R_R 0x43#8 0x08#8),
    ([0x25#8, 0x08#8, 0x43#8], .sub_R_IR 0x43#8 0x08#8),
    ([0x26#8, 0x43#8, 0x5A#8], .sub_R_IM 0x43#8 0x5A#8),
    ([0x27#8, 0x43#8, 0x5A#8], .sub_IR_IM 0x43#8 0x5A#8)] = true := by decide

theorem test_decode_sbc : decodesAll [
    ([0x32#8, 0x12#8], .sbc_r_r 0x1#4 0x2#4),
    ([0x33#8, 0x12#8], .sbc_r_Ir 0x1#4 0x2#4),
    ([0x34#8, 0x08#8, 0x43#8], .sbc_R_R 0x43#8 0x08#8),
    ([0x35#8, 0x08#8, 0x43#8], .sbc_R_IR 0x43#8 0x08#8),
    ([0x36#8, 0x43#8, 0x5A#8], .sbc_R_IM 0x43#8 0x5A#8),
    ([0x37#8, 0x43#8, 0x5A#8], .sbc_IR_IM 0x43#8 0x5A#8)] = true := by decide

theorem test_decode_or : decodesAll [
    ([0x42#8, 0x12#8], .or_r_r 0x1#4 0x2#4),
    ([0x43#8, 0x12#8], .or_r_Ir 0x1#4 0x2#4),
    ([0x44#8, 0x08#8, 0x43#8], .or_R_R 0x43#8 0x08#8),
    ([0x45#8, 0x08#8, 0x43#8], .or_R_IR 0x43#8 0x08#8),
    ([0x46#8, 0x43#8, 0x5A#8], .or_R_IM 0x43#8 0x5A#8),
    ([0x47#8, 0x43#8, 0x5A#8], .or_IR_IM 0x43#8 0x5A#8)] = true := by decide

theorem test_decode_and : decodesAll [
    ([0x52#8, 0x12#8], .and_r_r 0x1#4 0x2#4),
    ([0x53#8, 0x12#8], .and_r_Ir 0x1#4 0x2#4),
    ([0x54#8, 0x08#8, 0x43#8], .and_R_R 0x43#8 0x08#8),
    ([0x55#8, 0x08#8, 0x43#8], .and_R_IR 0x43#8 0x08#8),
    ([0x56#8, 0x43#8, 0x5A#8], .and_R_IM 0x43#8 0x5A#8),
    ([0x57#8, 0x43#8, 0x5A#8], .and_IR_IM 0x43#8 0x5A#8)] = true := by decide

theorem test_decode_tcm : decodesAll [
    ([0x62#8, 0x12#8], .tcm_r_r 0x1#4 0x2#4),
    ([0x63#8, 0x12#8], .tcm_r_Ir 0x1#4 0x2#4),
    ([0x64#8, 0x08#8, 0x43#8], .tcm_R_R 0x43#8 0x08#8),
    ([0x65#8, 0x08#8, 0x43#8], .tcm_R_IR 0x43#8 0x08#8),
    ([0x66#8, 0x43#8, 0x5A#8], .tcm_R_IM 0x43#8 0x5A#8),
    ([0x67#8, 0x43#8, 0x5A#8], .tcm_IR_IM 0x43#8 0x5A#8)] = true := by decide

theorem test_decode_tm : decodesAll [
    ([0x72#8, 0x12#8], .tm_r_r 0x1#4 0x2#4),
    ([0x73#8, 0x12#8], .tm_r_Ir 0x1#4 0x2#4),
    ([0x74#8, 0x08#8, 0x43#8], .tm_R_R 0x43#8 0x08#8),
    ([0x75#8, 0x08#8, 0x43#8], .tm_R_IR 0x43#8 0x08#8),
    ([0x76#8, 0x43#8, 0x5A#8], .tm_R_IM 0x43#8 0x5A#8),
    ([0x77#8, 0x43#8, 0x5A#8], .tm_IR_IM 0x43#8 0x5A#8)] = true := by decide

theorem test_decode_cp : decodesAll [
    ([0xA2#8, 0x12#8], .cp_r_r 0x1#4 0x2#4),
    ([0xA3#8, 0x12#8], .cp_r_Ir 0x1#4 0x2#4),
    ([0xA4#8, 0x08#8, 0x43#8], .cp_R_R 0x43#8 0x08#8),
    ([0xA5#8, 0x08#8, 0x43#8], .cp_R_IR 0x43#8 0x08#8),
    ([0xA6#8, 0x43#8, 0x5A#8], .cp_R_IM 0x43#8 0x5A#8),
    ([0xA7#8, 0x43#8, 0x5A#8], .cp_IR_IM 0x43#8 0x5A#8)] = true := by decide

theorem test_decode_xor : decodesAll [
    ([0xB2#8, 0x12#8], .xor_r_r 0x1#4 0x2#4),
    ([0xB3#8, 0x12#8], .xor_r_Ir 0x1#4 0x2#4),
    ([0xB4#8, 0x08#8, 0x43#8], .xor_R_R 0x43#8 0x08#8),
    ([0xB5#8, 0x08#8, 0x43#8], .xor_R_IR 0x43#8 0x08#8),
    ([0xB6#8, 0x43#8, 0x5A#8], .xor_R_IM 0x43#8 0x5A#8),
    ([0xB7#8, 0x43#8, 0x5A#8], .xor_IR_IM 0x43#8 0x5A#8)] = true := by decide

theorem test_decode_dec : decodesAll [
    ([0x00#8, 0x44#8], .dec_R 0x44#8),
    ([0x01#8, 0x44#8], .dec_IR 0x44#8)] = true := by decide

theorem test_decode_rlc : decodesAll [
    ([0x10#8, 0x44#8], .rlc_R 0x44#8),
    ([0x11#8, 0x44#8], .rlc_IR 0x44#8)] = true := by decide

theorem test_decode_inc : decodesAll [
    ([0x20#8, 0x44#8], .inc_R 0x44#8),
    ([0x21#8, 0x44#8], .inc_IR 0x44#8),
    ([0x3E#8], .inc_r 0x3#4)] = true := by decide

theorem test_decode_da : decodesAll [
    ([0x40#8, 0x44#8], .da_R 0x44#8),
    ([0x41#8, 0x44#8], .da_IR 0x44#8)] = true := by decide

theorem test_decode_pop : decodesAll [
    ([0x50#8, 0x44#8], .pop_R 0x44#8),
    ([0x51#8, 0x44#8], .pop_IR 0x44#8)] = true := by decide

theorem test_decode_com : decodesAll [
    ([0x60#8, 0x44#8], .com_R 0x44#8),
    ([0x61#8, 0x44#8], .com_IR 0x44#8)] = true := by decide

theorem test_decode_push : decodesAll [
    ([0x70#8, 0x44#8], .push_R 0x44#8),
    ([0x71#8, 0x44#8], .push_IR 0x44#8)] = true := by decide

theorem test_decode_decw : decodesAll [
    ([0x80#8, 0x44#8], .decw_RR 0x44#8),
    ([0x81#8, 0x44#8], .decw_IR 0x44#8)] = true := by decide

theorem test_decode_rl : decodesAll [
    ([0x90#8, 0x44#8], .rl_R 0x44#8),
    ([0x91#8, 0x44#8], .rl_IR 0x44#8)] = true := by decide

theorem test_decode_incw : decodesAll [
    ([0xA0#8, 0x44#8], .incw_RR 0x44#8),
    ([0xA1#8, 0x44#8], .incw_IR 0x44#8)] = true := by decide

theorem test_decode_clr : decodesAll [
    ([0xB0#8, 0x44#8], .clr_R 0x44#8),
    ([0xB1#8, 0x44#8], .clr_IR 0x44#8)] = true := by decide

theorem test_decode_rrc : decodesAll [
    ([0xC0#8, 0x44#8], .rrc_R 0x44#8),
    ([0xC1#8, 0x44#8], .rrc_IR 0x44#8)] = true := by decide

theorem test_decode_sra : decodesAll [
    ([0xD0#8, 0x44#8], .sra_R 0x44#8),
    ([0xD1#8, 0x44#8], .sra_IR 0x44#8)] = true := by decide

theorem test_decode_rr : decodesAll [
    ([0xE0#8, 0x44#8], .rr_R 0x44#8),
    ([0xE1#8, 0x44#8], .rr_IR 0x44#8)] = true := by decide

theorem test_decode_swap : decodesAll [
    ([0xF0#8, 0x44#8], .swap_R 0x44#8),
    ([0xF1#8, 0x44#8], .swap_IR 0x44#8)] = true := by decide

theorem test_decode_jp : decodesAll [
    ([0x30#8, 0xE4#8], .jp_IRR 0xE4#8),
    ([0xED#8, 0x01#8, 0x23#8], .jp_cc_DA .nz 0x0123#16)] = true := by decide

theorem test_decode_srp : decodesAll [
    ([0x31#8, 0x20#8], .srp_IM 0x20#8)] = true := by decide

theorem test_decode_ldc : decodesAll [
    ([0xC2#8, 0x12#8], .ldc_r_Irr 0x1#4 0x2#4),
    ([0xD2#8, 0x21#8], .ldc_Irr_r 0x2#4 0x1#4)] = true := by decide

theorem test_decode_ldci : decodesAll [
    ([0xC3#8, 0x12#8], .ldci_Ir_Irr 0x1#4 0x2#4),
    ([0xD3#8, 0x21#8], .ldci_Irr_Ir 0x2#4 0x1#4)] = true := by decide

theorem test_decode_ld : decodesAll [
    ([0xC7#8, 0x12#8, 0x40#8], .ld_r_X 0x1#4 0x2#4 0x40#8),
    ([0xD7#8, 0x12#8, 0x40#8], .ld_X_r 0x1#4 0x2#4 0x40#8),
    ([0xE3#8, 0x12#8], .ld_r_Ir 0x1#4 0x2#4),
    ([0xE4#8, 0x08#8, 0x43#8], .ld_R_R 0x43#8 0x08#8),
    ([0xE5#8, 0x08#8, 0x43#8], .ld_R_IR 0x43#8 0x08#8),
    ([0xE6#8, 0x43#8, 0x5A#8], .ld_R_IM 0x43#8 0x5A#8),
    ([0xE7#8, 0x43#8, 0x5A#8], .ld_IR_IM 0x43#8 0x5A#8),
    ([0xF3#8, 0x12#8], .ld_Ir_r 0x1#4 0x2#4),
    ([0xF5#8, 0x08#8, 0x43#8], .ld_IR_R 0x43#8 0x08#8),
    ([0x18#8, 0x43#8], .ld_r_R 0x1#4 0x43#8),
    ([0x19#8, 0x43#8], .ld_R_r 0x43#8 0x1#4),
    ([0x1C#8, 0x55#8], .ld_r_IM 0x1#4 0x55#8)] = true := by decide

theorem test_decode_call : decodesAll [
    ([0xD4#8, 0xE4#8], .call_IRR 0xE4#8),
    ([0xD6#8, 0x01#8, 0x23#8], .call_DA 0x0123#16)] = true := by decide

theorem test_decode_wdt : decodesAll [
    ([0x5F#8], .wdt)] = true := by decide

theorem test_decode_stop : decodesAll [
    ([0x6F#8], .stop)] = true := by decide

theorem test_decode_halt : decodesAll [
    ([0x7F#8], .halt)] = true := by decide

theorem test_decode_di : decodesAll [
    ([0x8F#8], .di)] = true := by decide

theorem test_decode_ei : decodesAll [
    ([0x9F#8], .ei)] = true := by decide

theorem test_decode_ret : decodesAll [
    ([0xAF#8], .ret)] = true := by decide

theorem test_decode_iret : decodesAll [
    ([0xBF#8], .iret)] = true := by decide

theorem test_decode_rcf : decodesAll [
    ([0xCF#8], .rcf)] = true := by decide

theorem test_decode_scf : decodesAll [
    ([0xDF#8], .scf)] = true := by decide

theorem test_decode_ccf : decodesAll [
    ([0xEF#8], .ccf)] = true := by decide

theorem test_decode_nop : decodesAll [
    ([0xFF#8], .nop)] = true := by decide

theorem test_decode_djnz : decodesAll [
    ([0x2A#8, 0xFC#8], .djnz_r_RA 0x2#4 0xFC#8)] = true := by decide

theorem test_decode_jr : decodesAll [
    ([0x6B#8, 0x0E#8], .jr_cc_RA .z 0x0E#8)] = true := by decide

theorem test_decode_reserved : decodesAll [
    ([0x0F#8], .reserved_0F),
    ([0x1F#8], .reserved_1F),
    ([0x2F#8], .reserved_2F),
    ([0x3F#8], .reserved_3F),
    ([0x4F#8], .reserved_4F),
    ([0x82#8], .reserved_82),
    ([0x83#8], .reserved_83),
    ([0x84#8], .reserved_84),
    ([0x85#8], .reserved_85),
    ([0x86#8], .reserved_86),
    ([0x87#8], .reserved_87),
    ([0x92#8], .reserved_92),
    ([0x93#8], .reserved_93),
    ([0x94#8], .reserved_94),
    ([0x95#8], .reserved_95),
    ([0x96#8], .reserved_96),
    ([0x97#8], .reserved_97),
    ([0xC4#8], .reserved_C4),
    ([0xC5#8], .reserved_C5),
    ([0xC6#8], .reserved_C6),
    ([0xD5#8], .reserved_D5),
    ([0xE2#8], .reserved_E2),
    ([0xF2#8], .reserved_F2),
    ([0xF4#8], .reserved_F4),
    ([0xF6#8], .reserved_F6),
    ([0xF7#8], .reserved_F7)] = true := by decide

/-- The condition code field (R110), through JR and JP. -/
theorem test_decode_conditions : decodesAll [
    ([0x0B#8, 0xFE#8], .jr_cc_RA .never 0xFE#8), ([0x0D#8, 0x12#8, 0x34#8], .jp_cc_DA .never 0x1234#16),
    ([0x1B#8, 0xFE#8], .jr_cc_RA .lt 0xFE#8), ([0x1D#8, 0x12#8, 0x34#8], .jp_cc_DA .lt 0x1234#16),
    ([0x2B#8, 0xFE#8], .jr_cc_RA .le 0xFE#8), ([0x2D#8, 0x12#8, 0x34#8], .jp_cc_DA .le 0x1234#16),
    ([0x3B#8, 0xFE#8], .jr_cc_RA .ule 0xFE#8), ([0x3D#8, 0x12#8, 0x34#8], .jp_cc_DA .ule 0x1234#16),
    ([0x4B#8, 0xFE#8], .jr_cc_RA .ov 0xFE#8), ([0x4D#8, 0x12#8, 0x34#8], .jp_cc_DA .ov 0x1234#16),
    ([0x5B#8, 0xFE#8], .jr_cc_RA .mi 0xFE#8), ([0x5D#8, 0x12#8, 0x34#8], .jp_cc_DA .mi 0x1234#16),
    ([0x6B#8, 0xFE#8], .jr_cc_RA .z 0xFE#8), ([0x6D#8, 0x12#8, 0x34#8], .jp_cc_DA .z 0x1234#16),
    ([0x7B#8, 0xFE#8], .jr_cc_RA .c 0xFE#8), ([0x7D#8, 0x12#8, 0x34#8], .jp_cc_DA .c 0x1234#16),
    ([0x8B#8, 0xFE#8], .jr_cc_RA .always 0xFE#8), ([0x8D#8, 0x12#8, 0x34#8], .jp_cc_DA .always 0x1234#16),
    ([0x9B#8, 0xFE#8], .jr_cc_RA .ge 0xFE#8), ([0x9D#8, 0x12#8, 0x34#8], .jp_cc_DA .ge 0x1234#16),
    ([0xAB#8, 0xFE#8], .jr_cc_RA .gt 0xFE#8), ([0xAD#8, 0x12#8, 0x34#8], .jp_cc_DA .gt 0x1234#16),
    ([0xBB#8, 0xFE#8], .jr_cc_RA .ugt 0xFE#8), ([0xBD#8, 0x12#8, 0x34#8], .jp_cc_DA .ugt 0x1234#16),
    ([0xCB#8, 0xFE#8], .jr_cc_RA .nov 0xFE#8), ([0xCD#8, 0x12#8, 0x34#8], .jp_cc_DA .nov 0x1234#16),
    ([0xDB#8, 0xFE#8], .jr_cc_RA .pl 0xFE#8), ([0xDD#8, 0x12#8, 0x34#8], .jp_cc_DA .pl 0x1234#16),
    ([0xEB#8, 0xFE#8], .jr_cc_RA .nz 0xFE#8), ([0xED#8, 0x12#8, 0x34#8], .jp_cc_DA .nz 0x1234#16),
    ([0xFB#8, 0xFE#8], .jr_cc_RA .nc 0xFE#8), ([0xFD#8, 0x12#8, 0x34#8], .jp_cc_DA .nc 0x1234#16)] = true := by decide

/-! ## Behaviour: the spec's own vectors, each one step on a small state (95_test_vectors.md sections 2.1 to 2.8) -/

/-- `CLR 43H`, `B0 43` (95_test_vectors.md section 2, R141). -/
theorem test_clr_1 : runs (fun t => t.reg 0x43#8 == 0x00#8 && six t == 0b111111#6 && t.pc == 0x0102#16)
    (start Device.default [(0x43#8, 0x5A#8), (0xFC#8, 0xFC#8)] [0xB0#8, 0x43#8] []) = true := by decide

/-- `CLR @44H`, `B1 44` (95_test_vectors.md section 2, R141). -/
theorem test_clr_2 : runs (fun t => t.reg 0x43#8 == 0x00#8 && t.reg 0x44#8 == 0x43#8 && t.pc == 0x0102#16)
    (start Device.default [(0x44#8, 0x43#8), (0x43#8, 0xFF#8)] [0xB1#8, 0x44#8] []) = true := by decide

/-- `LD R1,43H`, `18 43` (95_test_vectors.md section 2, R143). -/
theorem test_ld_1 : runs (fun t => t.reg 0x21#8 == 0x77#8 && t.reg 0x43#8 == 0x77#8 && six t == 0b111111#6 &&
      t.pc == 0x0102#16)
    (start Device.default
      [(0x43#8, 0x77#8), (0xFD#8, 0x20#8), (0xFC#8, 0xFC#8)] [0x18#8, 0x43#8] []) = true := by decide

/-- `LD 0FCH,#0A5H`, `E6 FC A5` (95_test_vectors.md section 2, R151). -/
theorem test_ld_2 : runs (fun t => six t == 0b101001#6 && !flagWdt t.flags && flagSmr t.flags && t.pc == 0x0103#16)
    (start Device.default [] [0xE6#8, 0xFC#8, 0xA5#8] []) = true := by decide

/-- `LD R1,0F0H(R2)`, `C7 12 F0`: the indexed sum wraps (95_test_vectors.md section 2, R145). -/
theorem test_ld_r_X_1 : runs (fun t => t.reg 0x21#8 == 0x3C#8 && t.pc == 0x0103#16)
    (start Device.default
      [(0xFD#8, 0x20#8), (0x22#8, 0x20#8), (0x10#8, 0x3C#8)] [0xC7#8, 0x12#8, 0xF0#8] []) = true := by decide

/-- `LD R1,0E0H(R2)`, `C7 12 E0`: the base is absolute (95_test_vectors.md section 2, R145). -/
theorem test_ld_r_X_2 : runs (fun t => t.reg 0x21#8 == 0x4D#8 && t.pc == 0x0103#16)
    (start Device.default
      [(0xFD#8, 0x20#8), (0x22#8, 0x05#8), (0xE5#8, 0x4D#8)] [0xC7#8, 0x12#8, 0xE0#8] []) = true := by decide

/-- `LD 10H(R2),R1`, `D7 12 10` (95_test_vectors.md section 2, R146). -/
theorem test_ld_X_r : runs (fun t => t.reg 0x15#8 == 0xAB#8 && t.pc == 0x0103#16)
    (start Device.default
      [(0xFD#8, 0x20#8), (0x21#8, 0xAB#8), (0x22#8, 0x05#8)] [0xD7#8, 0x12#8, 0x10#8] []) = true := by decide

/-- `LDC R1,@RR2`, `C2 12` (95_test_vectors.md section 2, R155). -/
theorem test_ldc_1 : runs (fun t => t.reg 0x21#8 == 0x9A#8 && six t == 0b111111#6 && t.pc == 0x0102#16)
    (start Device.default
      [(0x22#8, 0x02#8), (0x23#8, 0x00#8), (0xFD#8, 0x20#8), (0xFC#8, 0xFC#8)] [0xC2#8, 0x12#8] [(0x0200#16, 0x9A#8)])
      = true := by decide

/-- `LDC @RR2,R1`, `D2 21` (95_test_vectors.md section 2, R156). -/
theorem test_ldc_2 : runs (fun t => t.progByte 0x0200#16 == some 0x5A#8 && t.pc == 0x0102#16)
    (start Device.default
      [(0x21#8, 0x5A#8), (0x22#8, 0x02#8), (0x23#8, 0x00#8), (0xFD#8, 0x20#8)] [0xD2#8, 0x21#8] []) = true := by
      decide

/-- `POP 43H`, `50 43` (95_test_vectors.md section 2, R157). -/
theorem test_pop_1 : runs (fun t => t.reg 0x43#8 == 0x99#8 && t.reg 0x7E#8 == 0x99#8 && t.sp == 0x7F#8 && six
      t == 0b111111#6 && t.pc == 0x0102#16)
    (start Device.default
      [(0x7E#8, 0x99#8), (0xFF#8, 0x7E#8), (0xFC#8, 0xFC#8)] [0x50#8, 0x43#8] []) = true := by decide

/-- `POP @44H`, `51 44` (95_test_vectors.md section 2, R157). -/
theorem test_pop_2 : runs (fun t => t.reg 0x60#8 == 0x99#8 && t.sp == 0x7F#8 && t.pc == 0x0102#16)
    (start Device.default
      [(0x7E#8, 0x99#8), (0x44#8, 0x60#8), (0xFF#8, 0x7E#8)] [0x51#8, 0x44#8] []) = true := by decide

/-- `PUSH 43H`, `70 43` (95_test_vectors.md section 2, R158). -/
theorem test_push_1 : runs (fun t => t.reg 0x7F#8 == 0x99#8 && t.sp == 0x7F#8 && t.pc == 0x0102#16)
    (start Device.default [(0x43#8, 0x99#8), (0xFF#8, 0x80#8)] [0x70#8, 0x43#8] []) = true := by decide

/-- `PUSH @44H`, `71 44` (95_test_vectors.md section 2, R158). -/
theorem test_push_2 : runs (fun t => t.reg 0x7F#8 == 0x99#8 && t.sp == 0x7F#8 && t.pc == 0x0102#16)
    (start Device.default
      [(0x44#8, 0x43#8), (0x43#8, 0x99#8), (0xFF#8, 0x80#8)] [0x71#8, 0x44#8] []) = true := by decide

/-- `ADD 43H,#80H`, `06 43 80` (95_test_vectors.md section 2, R172). -/
theorem test_add_1 : runs (fun t => t.reg 0x43#8 == 0x00#8 && six t == 0b110100#6 && t.pc == 0x0103#16)
    (start Device.default [(0x43#8, 0x80#8), (0xFC#8, 0x08#8)] [0x06#8, 0x43#8, 0x80#8] []) = true := by decide

/-- `ADD R1,R1`, `02 11` (95_test_vectors.md section 2, R172). -/
theorem test_add_2 : runs (fun t => t.reg 0x21#8 == 0x90#8 && six t == 0b001101#6 && t.pc == 0x0102#16)
    (start Device.default [(0x21#8, 0x48#8), (0xFD#8, 0x20#8)] [0x02#8, 0x11#8] []) = true := by decide

/-- `ADC R1,@R2`, `13 12` (95_test_vectors.md section 2, R171). -/
theorem test_adc_1 : runs (fun t => t.reg 0x21#8 == 0x00#8 && six t == 0b110001#6 && t.pc == 0x0102#16)
    (start Device.default
      [(0x21#8, 0xFF#8), (0x22#8, 0x43#8), (0x43#8, 0x00#8), (0xFD#8, 0x20#8), (0xFC#8, 0x80#8)] [0x13#8, 0x12#8] [])
      = true := by decide

/-- `ADC 43H,#00H`, `16 43 00` (95_test_vectors.md section 2, R171). -/
theorem test_adc_2 : runs (fun t => t.reg 0x43#8 == 0x80#8 && six t == 0b001101#6 && t.pc == 0x0103#16)
    (start Device.default [(0x43#8, 0x7F#8), (0xFC#8, 0x80#8)] [0x16#8, 0x43#8, 0x00#8] []) = true := by decide

/-- `SUB R1,R2`, `22 12` (95_test_vectors.md section 2, R180). -/
theorem test_sub_1 : runs (fun t => t.reg 0x21#8 == 0xF0#8 && six t == 0b101010#6 && t.pc == 0x0102#16)
    (start Device.default
      [(0x21#8, 0x50#8), (0x22#8, 0x60#8), (0xFD#8, 0x20#8)] [0x22#8, 0x12#8] []) = true := by decide

/-- `SUB 43H,#0FFH`, `26 43 FF` (95_test_vectors.md section 2, R180). -/
theorem test_sub_2 : runs (fun t => t.reg 0x43#8 == 0x80#8 && six t == 0b101110#6 && t.pc == 0x0103#16)
    (start Device.default [(0x43#8, 0x7F#8)] [0x26#8, 0x43#8, 0xFF#8] []) = true := by decide

/-- `SBC 43H,#01H`, `36 43 01` (95_test_vectors.md section 2, R179). -/
theorem test_sbc_1 : runs (fun t => t.reg 0x43#8 == 0x7E#8 && six t == 0b000111#6 && t.pc == 0x0103#16)
    (start Device.default [(0x43#8, 0x80#8), (0xFC#8, 0x80#8)] [0x36#8, 0x43#8, 0x01#8] []) = true := by decide

/-- `SBC 43H,#0FFH`, `36 43 FF` (95_test_vectors.md section 2, R179). -/
theorem test_sbc_2 : runs (fun t => t.reg 0x43#8 == 0x00#8 && six t == 0b110011#6 && t.pc == 0x0103#16)
    (start Device.default [(0x43#8, 0x00#8), (0xFC#8, 0x80#8)] [0x36#8, 0x43#8, 0xFF#8] []) = true := by decide

/-- `CP R2,R1`, `A4 E1 E2` (95_test_vectors.md section 2, R173). -/
theorem test_cp_1 : runs (fun t => t.reg 0x22#8 == 0x33#8 && six t == 0b010000#6 && t.pc == 0x0103#16)
    (start Device.default
      [(0x21#8, 0x33#8), (0x22#8, 0x33#8), (0xFD#8, 0x20#8)] [0xA4#8, 0xE1#8, 0xE2#8] []) = true := by decide

/-- `CP 43H,#80H`, `A6 43 80` (95_test_vectors.md section 2, R173). -/
theorem test_cp_2 : runs (fun t => t.reg 0x43#8 == 0x7F#8 && six t == 0b101100#6 && t.pc == 0x0103#16)
    (start Device.default [(0x43#8, 0x7F#8)] [0xA6#8, 0x43#8, 0x80#8] []) = true := by decide

/-- `DA 43H`, `40 43` (95_test_vectors.md section 2, R174). -/
theorem test_da_1 : runs (fun t => t.reg 0x43#8 == 0x98#8 && six t == 0b101001#6 && t.pc == 0x0102#16)
    (start Device.default [(0x43#8, 0x32#8), (0xFC#8, 0x84#8)] [0x40#8, 0x43#8] []) = true := by decide

/-- `DA @44H`, `41 44` (95_test_vectors.md section 2, R174). -/
theorem test_da_2 : runs (fun t => t.reg 0x43#8 == 0x10#8 && six t == 0b000100#6 && t.pc == 0x0102#16)
    (start Device.default
      [(0x44#8, 0x43#8), (0x43#8, 0x0A#8), (0xFC#8, 0x10#8)] [0x41#8, 0x44#8] []) = true := by decide

/-- `DEC 43H`, `00 43` (95_test_vectors.md section 2, R175). -/
theorem test_dec_1 : runs (fun t => t.reg 0x43#8 == 0x7F#8 && six t == 0b100100#6 && t.pc == 0x0102#16)
    (start Device.default [(0x43#8, 0x80#8), (0xFC#8, 0x80#8)] [0x00#8, 0x43#8] []) = true := by decide

/-- `DEC @44H`, `01 44` (95_test_vectors.md section 2, R175). -/
theorem test_dec_2 : runs (fun t => t.reg 0x43#8 == 0x0F#8 && six t == 0b000000#6 && t.pc == 0x0102#16)
    (start Device.default [(0x44#8, 0x43#8), (0x43#8, 0x10#8)] [0x01#8, 0x44#8] []) = true := by decide

/-- `INC R3`, `3E` (95_test_vectors.md section 2, R177). -/
theorem test_inc_1 : runs (fun t => t.reg 0x23#8 == 0x80#8 && six t == 0b001100#6 && t.pc == 0x0101#16)
    (start Device.default [(0x23#8, 0x7F#8), (0xFD#8, 0x20#8)] [0x3E#8] []) = true := by decide

/-- `INC 43H`, `20 43` (95_test_vectors.md section 2, R177). -/
theorem test_inc_2 : runs (fun t => t.reg 0x43#8 == 0x10#8 && six t == 0b000000#6 && t.pc == 0x0102#16)
    (start Device.default [(0x43#8, 0x0F#8)] [0x20#8, 0x43#8] []) = true := by decide

/-- `DECW 42H`, `80 42` (95_test_vectors.md section 2, R176). -/
theorem test_decw_1 : runs (fun t => t.reg 0x42#8 == 0x7F#8 && t.reg 0x43#8 == 0xFF#8 && six t == 0b000100#6 &&
      t.pc == 0x0102#16)
    (start Device.default [(0x42#8, 0x80#8), (0x43#8, 0x00#8)] [0x80#8, 0x42#8] []) = true := by decide

/-- `DECW @44H`, `81 44` (95_test_vectors.md section 2, R176). -/
theorem test_decw_2 : runs (fun t => t.reg 0x42#8 == 0x12#8 && t.reg 0x43#8 == 0x33#8 && six t == 0b000000#6 &&
      t.pc == 0x0102#16)
    (start Device.default
      [(0x44#8, 0x42#8), (0x42#8, 0x12#8), (0x43#8, 0x34#8)] [0x81#8, 0x44#8] []) = true := by decide

/-- `INCW 42H`, `A0 42` (95_test_vectors.md section 2, R178). -/
theorem test_incw_1 : runs (fun t => t.reg 0x42#8 == 0x80#8 && t.reg 0x43#8 == 0x00#8 && six t == 0b001100#6 &&
      t.pc == 0x0102#16)
    (start Device.default [(0x42#8, 0x7F#8), (0x43#8, 0xFF#8)] [0xA0#8, 0x42#8] []) = true := by decide

/-- `INCW @44H`, `A1 44` (95_test_vectors.md section 2, R178). -/
theorem test_incw_2 : runs (fun t => t.reg 0x42#8 == 0x12#8 && t.reg 0x43#8 == 0x35#8 && six t == 0b000000#6 &&
      t.pc == 0x0102#16)
    (start Device.default
      [(0x44#8, 0x42#8), (0x42#8, 0x12#8), (0x43#8, 0x34#8)] [0xA1#8, 0x44#8] []) = true := by decide

/-- `AND R1,R2`, `52 12` (95_test_vectors.md section 2, R201). -/
theorem test_and_1 : runs (fun t => t.reg 0x21#8 == 0x30#8 && six t == 0b100011#6 && t.pc == 0x0102#16)
    (start Device.default
      [(0x21#8, 0xF0#8), (0x22#8, 0x3C#8), (0xFD#8, 0x20#8), (0xFC#8, 0x9C#8)] [0x52#8, 0x12#8] []) = true := by
      decide

/-- `AND 43H,#0FH`, `56 43 0F` (95_test_vectors.md section 2, R201). -/
theorem test_and_2 : runs (fun t => t.reg 0x43#8 == 0x00#8 && six t == 0b010000#6 && t.pc == 0x0103#16)
    (start Device.default [(0x43#8, 0xF0#8)] [0x56#8, 0x43#8, 0x0F#8] []) = true := by decide

/-- `OR R1,@R2`, `43 12` (95_test_vectors.md section 2, R203). -/
theorem test_or_1 : runs (fun t => t.reg 0x21#8 == 0x81#8 && six t == 0b001000#6 && t.pc == 0x0102#16)
    (start Device.default
      [(0x21#8, 0x01#8), (0x22#8, 0x43#8), (0x43#8, 0x80#8), (0xFD#8, 0x20#8)] [0x43#8, 0x12#8] []) = true := by
      decide

/-- `OR 43H,08H`, `44 08 43` (95_test_vectors.md section 2, R203). -/
theorem test_or_2 : runs (fun t => t.reg 0x43#8 == 0x00#8 && six t == 0b010000#6 && t.pc == 0x0103#16)
    (start Device.default
      [(0x43#8, 0x00#8), (0x08#8, 0x00#8), (0xFC#8, 0x10#8)] [0x44#8, 0x08#8, 0x43#8] []) = true := by decide

/-- `XOR 43H,@08H`, `B5 08 43` (95_test_vectors.md section 2, R204). -/
theorem test_xor_1 : runs (fun t => t.reg 0x43#8 == 0xF0#8 && six t == 0b001000#6 && t.pc == 0x0103#16)
    (start Device.default
      [(0x43#8, 0xFF#8), (0x08#8, 0x50#8), (0x50#8, 0x0F#8)] [0xB5#8, 0x08#8, 0x43#8] []) = true := by decide

/-- `XOR R1,R1`, `B2 11` (95_test_vectors.md section 2, R204). -/
theorem test_xor_2 : runs (fun t => t.reg 0x21#8 == 0x00#8 && six t == 0b010000#6 && t.pc == 0x0102#16)
    (start Device.default [(0x21#8, 0xA7#8), (0xFD#8, 0x20#8)] [0xB2#8, 0x11#8] []) = true := by decide

/-- `COM 43H`, `60 43` (95_test_vectors.md section 2, R202). -/
theorem test_com_1 : runs (fun t => t.reg 0x43#8 == 0xA5#8 && six t == 0b101011#6 && t.pc == 0x0102#16)
    (start Device.default [(0x43#8, 0x5A#8), (0xFC#8, 0x9C#8)] [0x60#8, 0x43#8] []) = true := by decide

/-- `COM @44H`, `61 44` (95_test_vectors.md section 2, R202). -/
theorem test_com_2 : runs (fun t => t.reg 0x43#8 == 0x00#8 && six t == 0b010000#6 && t.pc == 0x0102#16)
    (start Device.default [(0x44#8, 0x43#8), (0x43#8, 0xFF#8)] [0x61#8, 0x44#8] []) = true := by decide

/-- `TM R1,R2`, `72 12` (95_test_vectors.md section 2, R232). -/
theorem test_tm_1 : runs (fun t => t.reg 0x21#8 == 0x0F#8 && six t == 0b000000#6 && t.pc == 0x0102#16)
    (start Device.default
      [(0x21#8, 0x0F#8), (0x22#8, 0x08#8), (0xFD#8, 0x20#8)] [0x72#8, 0x12#8] []) = true := by decide

/-- `TM 0FCH,#03H`, `76 FC 03` (95_test_vectors.md section 2, R232). -/
theorem test_tm_2 : runs (fun t => flagZ t.flags && !flagS t.flags && !flagV t.flags && !flagWdt t.flags && !flagSmr
      t.flags && t.pc == 0x0103#16)
    (start Device.default [] [0x76#8, 0xFC#8, 0x03#8] []) = true := by decide

/-- `TCM 43H,#81H`, `66 43 81` (95_test_vectors.md section 2, R231). -/
theorem test_tcm_1 : runs (fun t => t.reg 0x43#8 == 0x81#8 && six t == 0b010000#6 && t.pc == 0x0103#16)
    (start Device.default [(0x43#8, 0x81#8)] [0x66#8, 0x43#8, 0x81#8] []) = true := by decide

/-- `TCM R1,@R2`, `63 12` (95_test_vectors.md section 2, R231). -/
theorem test_tcm_2 : runs (fun t => t.reg 0x21#8 == 0xF0#8 && six t == 0b000000#6 && t.pc == 0x0102#16)
    (start Device.default
      [(0x21#8, 0xF0#8), (0x22#8, 0x43#8), (0x43#8, 0x0F#8), (0xFD#8, 0x20#8)] [0x63#8, 0x12#8] []) = true := by
      decide

/-- `JR 0106H`, `8B 04` (95_test_vectors.md section 2, R217). -/
theorem test_jr_1 : runs (fun t => t.pc == 0x0106#16)
    (start Device.default [] [0x8B#8, 0x04#8] []) = true := by decide

/-- `JR F,0106H`, `0B 04` (95_test_vectors.md section 2, R217). -/
theorem test_jr_2 : runs (fun t => t.pc == 0x0102#16)
    (start Device.default [] [0x0B#8, 0x04#8] []) = true := by decide

/-- `JP 1234H`, `8D 12 34` (95_test_vectors.md section 2, R215). -/
theorem test_jp_1 : runs (fun t => t.pc == 0x1234#16)
    (start Device.default [] [0x8D#8, 0x12#8, 0x34#8] []) = true := by decide

/-- `JP @RR4`, `30 E4` (95_test_vectors.md section 2, R216). -/
theorem test_jp_2 : runs (fun t => t.pc == 0xABCD#16)
    (start Device.default
      [(0x24#8, 0xAB#8), (0x25#8, 0xCD#8), (0xFD#8, 0x20#8)] [0x30#8, 0xE4#8] []) = true := by decide

/-- `CALL 1234H`, `D6 12 34` (95_test_vectors.md section 2, R211). -/
theorem test_call_1 : runs (fun t => t.reg 0x7E#8 == 0x01#8 && t.reg 0x7F#8 == 0x03#8 && t.sp == 0x7E#8 &&
      t.pc == 0x1234#16)
    (start Device.default [(0xFF#8, 0x80#8)] [0xD6#8, 0x12#8, 0x34#8] []) = true := by decide

/-- `CALL @42H`, `D4 42` (95_test_vectors.md section 2, R212). -/
theorem test_call_2 : runs (fun t => t.reg 0x7E#8 == 0x01#8 && t.reg 0x7F#8 == 0x02#8 && t.sp == 0x7E#8 &&
      t.pc == 0x1234#16)
    (start Device.default
      [(0x42#8, 0x12#8), (0x43#8, 0x34#8), (0xFF#8, 0x80#8)] [0xD4#8, 0x42#8] []) = true := by decide

/-- `RET`, `AF` (95_test_vectors.md section 2, R218). -/
theorem test_ret_1 : runs (fun t => t.sp == 0x80#8 && t.pc == 0x0103#16)
    (start Device.default [(0x7E#8, 0x01#8), (0x7F#8, 0x03#8), (0xFF#8, 0x7E#8)] [0xAF#8] []) = true := by decide

/-- `IRET`, `BF` (95_test_vectors.md section 2, R214). -/
theorem test_iret_1 : runs (fun t => t.sp == 0x80#8 && six t == 0b101001#6 && !flagWdt t.flags && !flagSmr t.flags &&
      masterEnable t.imr && t.pc == 0x0103#16)
    (start Device.default
      [(0x7D#8, 0xA4#8), (0x7E#8, 0x01#8), (0x7F#8, 0x03#8), (0xFF#8, 0x7D#8), (0xFB#8, 0x01#8)] [0xBF#8] []) = true
      := by decide

/-- `DJNZ R2,$`, `2A FE` (95_test_vectors.md section 2, R213). -/
theorem test_djnz_1 : runs (fun t => t.reg 0x22#8 == 0x01#8 && six t == 0b111111#6 && t.pc == 0x0100#16)
    (start Device.default
      [(0x22#8, 0x02#8), (0xFD#8, 0x20#8), (0xFC#8, 0xFC#8)] [0x2A#8, 0xFE#8] []) = true := by decide

/-- `DJNZ R2,$`, `2A FE` (95_test_vectors.md section 2, R213). -/
theorem test_djnz_2 : runs (fun t => t.reg 0x22#8 == 0x00#8 && six t == 0b000000#6 && t.pc == 0x0102#16)
    (start Device.default [(0x22#8, 0x01#8), (0xFD#8, 0x20#8)] [0x2A#8, 0xFE#8] []) = true := by decide

/-- `LDCI @R1,@RR2`, `C3 12` (95_test_vectors.md section 2, R241). -/
theorem test_ldci_1 : runs (fun t => t.reg 0x43#8 == 0x9A#8 && t.reg 0x21#8 == 0x44#8 && t.reg 0x22#8 == 0x03#8 &&
      t.reg 0x23#8 == 0x00#8 && six t == 0b111111#6 && t.pc == 0x0102#16)
    (start Device.default
      [(0x21#8, 0x43#8), (0x22#8, 0x02#8), (0x23#8, 0xFF#8), (0xFD#8, 0x20#8), (0xFC#8, 0xFC#8)] [0xC3#8, 0x12#8]
      [(0x02FF#16, 0x9A#8)]) = true := by decide

/-- `LDCI @RR2,@R1`, `D3 21` (95_test_vectors.md section 2, R242). -/
theorem test_ldci_2 : runs (fun t => t.reg 0x21#8 == 0x44#8 && t.reg 0x22#8 == 0x02#8 && t.reg 0x23#8 == 0x01#8 &&
      t.progByte 0x0200#16 == some 0x5A#8 && t.pc == 0x0102#16)
    (start Device.default
      [(0x21#8, 0x43#8), (0x43#8, 0x5A#8), (0x22#8, 0x02#8), (0x23#8, 0x00#8), (0xFD#8, 0x20#8)] [0xD3#8, 0x21#8] [])
      = true := by decide

/-- `RL 43H`, `90 43` (95_test_vectors.md section 2, R252). -/
theorem test_rl_1 : runs (fun t => t.reg 0x43#8 == 0x03#8 && six t == 0b100100#6 && t.pc == 0x0102#16)
    (start Device.default [(0x43#8, 0x81#8)] [0x90#8, 0x43#8] []) = true := by decide

/-- `RL @44H`, `91 44` (95_test_vectors.md section 2, R252). -/
theorem test_rl_2 : runs (fun t => t.reg 0x43#8 == 0x81#8 && six t == 0b101000#6 && t.pc == 0x0102#16)
    (start Device.default [(0x44#8, 0x43#8), (0x43#8, 0xC0#8)] [0x91#8, 0x44#8] []) = true := by decide

/-- `RLC 43H`, `10 43` (95_test_vectors.md section 2, R253). -/
theorem test_rlc_1 : runs (fun t => t.reg 0x43#8 == 0x02#8 && six t == 0b100100#6 && t.pc == 0x0102#16)
    (start Device.default [(0x43#8, 0x81#8)] [0x10#8, 0x43#8] []) = true := by decide

/-- `RLC 43H`, `10 43` (95_test_vectors.md section 2, R253). -/
theorem test_rlc_2 : runs (fun t => t.reg 0x43#8 == 0x00#8 && six t == 0b110100#6 && t.pc == 0x0102#16)
    (start Device.default [(0x43#8, 0x80#8)] [0x10#8, 0x43#8] []) = true := by decide

/-- `RR 43H`, `E0 43` (95_test_vectors.md section 2, R254). -/
theorem test_rr_1 : runs (fun t => t.reg 0x43#8 == 0x80#8 && six t == 0b101100#6 && t.pc == 0x0102#16)
    (start Device.default [(0x43#8, 0x01#8)] [0xE0#8, 0x43#8] []) = true := by decide

/-- `RR 43H`, `E0 43` (95_test_vectors.md section 2, R254). -/
theorem test_rr_2 : runs (fun t => t.reg 0x43#8 == 0x40#8 && six t == 0b000100#6 && t.pc == 0x0102#16)
    (start Device.default [(0x43#8, 0x80#8)] [0xE0#8, 0x43#8] []) = true := by decide

/-- `RRC 43H`, `C0 43` (95_test_vectors.md section 2, R255). -/
theorem test_rrc_1 : runs (fun t => t.reg 0x43#8 == 0x80#8 && six t == 0b001100#6 && t.pc == 0x0102#16)
    (start Device.default [(0x43#8, 0x00#8), (0xFC#8, 0x80#8)] [0xC0#8, 0x43#8] []) = true := by decide

/-- `RRC @44H`, `C1 44` (95_test_vectors.md section 2, R255). -/
theorem test_rrc_2 : runs (fun t => t.reg 0x43#8 == 0xFF#8 && six t == 0b101000#6 && t.pc == 0x0102#16)
    (start Device.default
      [(0x44#8, 0x43#8), (0x43#8, 0xFF#8), (0xFC#8, 0x80#8)] [0xC1#8, 0x44#8] []) = true := by decide

/-- `SRA 43H`, `D0 43` (95_test_vectors.md section 2, R256). -/
theorem test_sra_1 : runs (fun t => t.reg 0x43#8 == 0xC0#8 && six t == 0b101000#6 && t.pc == 0x0102#16)
    (start Device.default [(0x43#8, 0x81#8), (0xFC#8, 0x10#8)] [0xD0#8, 0x43#8] []) = true := by decide

/-- `SRA 43H`, `D0 43` (95_test_vectors.md section 2, R256). -/
theorem test_sra_2 : runs (fun t => t.reg 0x43#8 == 0x00#8 && six t == 0b110000#6 && t.pc == 0x0102#16)
    (start Device.default [(0x43#8, 0x01#8)] [0xD0#8, 0x43#8] []) = true := by decide

/-- `SWAP 43H`, `F0 43` (95_test_vectors.md section 2, R257). -/
theorem test_swap_1 : runs (fun t => t.reg 0x43#8 == 0x5A#8 && six t == 0b100100#6 && t.pc == 0x0102#16)
    (start Device.default [(0x43#8, 0xA5#8), (0xFC#8, 0x90#8)] [0xF0#8, 0x43#8] []) = true := by decide

/-- `SWAP @44H`, `F1 44` (95_test_vectors.md section 2, R257). -/
theorem test_swap_2 : runs (fun t => t.reg 0x43#8 == 0x80#8 && six t == 0b001000#6 && t.pc == 0x0102#16)
    (start Device.default [(0x44#8, 0x43#8), (0x43#8, 0x08#8)] [0xF1#8, 0x44#8] []) = true := by decide

/-- `CCF`, `EF` (95_test_vectors.md section 2, R271). -/
theorem test_ccf_1 : runs (fun t => six t == 0b010000#6 && t.pc == 0x0101#16)
    (start Device.default [(0xFC#8, 0xC0#8)] [0xEF#8] []) = true := by decide

/-- `CCF`, `EF` (95_test_vectors.md section 2, R271). -/
theorem test_ccf_2 : runs (fun t => six t == 0b100000#6 && t.pc == 0x0101#16)
    (start Device.default [] [0xEF#8] []) = true := by decide

/-- `RCF`, `CF` (95_test_vectors.md section 2, R276). -/
theorem test_rcf_1 : runs (fun t => six t == 0b000000#6 && t.pc == 0x0101#16)
    (start Device.default [(0xFC#8, 0x80#8)] [0xCF#8] []) = true := by decide

/-- `SCF`, `DF` (95_test_vectors.md section 2, R277). -/
theorem test_scf_1 : runs (fun t => six t == 0b100000#6 && t.pc == 0x0101#16)
    (start Device.default [] [0xDF#8] []) = true := by decide

/-- `NOP`, `FF` (95_test_vectors.md section 2, R275). -/
theorem test_nop_1 : runs (fun t => six t == 0b111111#6 && t.pc == 0x0101#16)
    (start Device.default [(0xFC#8, 0xFC#8)] [0xFF#8] []) = true := by decide

/-- `DI`, `8F` (95_test_vectors.md section 2, R272). -/
theorem test_di_1 : runs (fun t => !masterEnable t.imr && t.pc == 0x0101#16)
    (start Device.default [(0xFB#8, 0xFF#8)] [0x8F#8] []) = true := by decide

/-- `EI`, `9F` (95_test_vectors.md section 2, R273). -/
theorem test_ei_1 : runs (fun t => masterEnable t.imr && t.pc == 0x0101#16)
    (start Device.default [(0xFB#8, 0x00#8)] [0x9F#8] []) = true := by decide

/-- `SRP #20H`, `31 20` (95_test_vectors.md section 2, R278). -/
theorem test_srp_1 : runs (fun t => t.rp == 0x20#8 && t.pc == 0x0102#16)
    (start Device.default [] [0x31#8, 0x20#8] []) = true := by decide

/-- `SRP #0F5H`, `31 F5` (95_test_vectors.md section 2, R278). -/
theorem test_srp_2 : runs (fun t => t.rp == 0xF5#8 && t.pc == 0x0102#16)
    (start Device.default [(0xFD#8, 0x20#8)] [0x31#8, 0xF5#8] []) = true := by decide

/-- `HALT`, `7F` (95_test_vectors.md section 2, R274). -/
theorem test_halt_1 : runs (fun t => t.pc == 0x0101#16 && decide (t.mode = .halted))
    (start Device.default [] [0x7F#8] []) = true := by decide

/-- `STOP`, `6F` (95_test_vectors.md section 2, R279). -/
theorem test_stop_1 : runs (fun t => six t == 0b010000#6 && !flagWdt t.flags && flagSmr t.flags && t.pc == 0x0101#16
      && decide (t.mode = .stopped))
    (start Device.default [(0xFC#8, 0x40#8)] [0x6F#8] []) = true := by decide

/-- `STOP`, `6F` (95_test_vectors.md section 2, R279). -/
theorem test_stop_2 : refuses .staleStop
    (start Device.default [(0xFC#8, 0x01#8)] [0x6F#8] []) = true := by decide

/-- `WDT`, `5F` (95_test_vectors.md section 2, R280). -/
theorem test_wdt_1 : runs (fun t => !flagWdt t.flags && !flagSmr t.flags && t.pc == 0x0101#16)
    (start Device.default [] [0x5F#8] []) = true := by decide

/-- `(reserved)`, `0F` (95_test_vectors.md section 2, 30_encoding.md` R105, R106). -/
theorem test_reserved_1 : refuses .reservedOpcode
    (start { Device.default with reservedLen := .refuse } [] [0x0F#8] []) = true := by decide

/-- `(reserved)`, `C4 00 00` (95_test_vectors.md section 2, 30_encoding.md` R105, R106). -/
theorem test_reserved_2 : refuses .reservedOpcode
    (start { Device.default with reservedLen := .refuse } [] [0xC4#8, 0x00#8, 0x00#8] []) = true := by decide

/-! ## Events (95_test_vectors.md section 2.10) -/

/-- One source, fixed handler 0050H. -/
def oneSource (h : IrqHandler) : Device := { Device.default with irq := [⟨7, .always, 0, h⟩] }

/-- The state before the rows of section 2.10: pc 0123H, FLAGS A4H, SP 80H. -/
def atBoundary (h : IrqHandler) (imr : Byte) (mode : Mode) (script : List Boundary) : State :=
  { start (oneSource h) [(0xFC#8, 0xA4#8), (0xFB#8, imr), (0xFF#8, 0x80#8)] [] [(0x0004#16, 0x12#8), (0x0005#16, 0x34#8)] with
    pc := 0x0123#16, mode := mode, pending := [7], script := script }

theorem test_interrupt_entry : runs (fun t => t.sp == 0x7D#8 && t.reg 0x7D#8 == 0xA4#8 && t.reg 0x7E#8 == 0x01#8 &&
      t.reg 0x7F#8 == 0x23#8 && t.imr == 0x01#8 && t.flags == 0xA4#8 && t.pc == 0x0050#16 && t.pending.isEmpty)
    (atBoundary (.fixed 0x0050#16) 0x81#8 .running []) = true := by decide

theorem test_interrupt_vectored : runs (fun t => t.pc == 0x1234#16 && t.sp == 0x7D#8)
    (atBoundary (.vectored 0x0004#16) 0x81#8 .running []) = true := by decide

theorem test_interrupt_masked : runs (fun t => t.pending == [7] && t.pc == 0x0123#16 && decide (t.mode = .halted))
    (atBoundary (.fixed 0x0050#16) 0x01#8 .halted []) = true := by decide

theorem test_interrupt_wakes_halt : runs (fun t => t.pc == 0x0050#16 && decide (t.mode = .running) && t.reg 0x7F#8 == 0x23#8)
    (atBoundary (.fixed 0x0050#16) 0x81#8 .halted []) = true := by decide

theorem test_interrupt_not_in_stop : runs (fun t => t.pending == [7] && decide (t.mode = .stopped))
    (atBoundary (.fixed 0x0050#16) 0x81#8 .stopped []) = true := by decide

/-- A device restart: pc, mode, pending and IMR(7). -/
def restarted (t : State) : Bool :=
  t.pc == 0x0020#16 && decide (t.mode = .running) && t.pending.isEmpty && !masterEnable t.imr

/-- The state before a restart row: FLAGS as given, IMR 81H, a general register, a watch-dog period of five instructions
of which `since` have passed. -/
def beforeRestart (flags : Byte) (mode : Mode) (since : Nat) (b : Boundary) : State :=
  { start { Device.default with wdtPeriod := some 5 } [(0xFC#8, flags), (0xFB#8, 0x81#8), (0x43#8, 0x5A#8)] [0xFF#8] [] with
    mode := mode, pending := [7], sinceRefresh := since, script := [b] }

theorem test_reset_pin : runs (fun t => t.flags == 0xC0#8 && restarted t && t.reg 0x43#8 == 0x5A#8)
    (beforeRestart 0xC3#8 .halted 0 { resetPin := true }) = true := by decide

theorem test_wdt_timeout : runs (fun t => t.flags == 0x42#8 && restarted t && t.reg 0x43#8 == 0x5A#8)
    (beforeRestart 0x40#8 .running 5 {}) = true := by decide

/-- Four of the five instruction times have passed: no timeout (R353). -/
theorem test_wdt_not_due : runs (fun t => t.flags == 0x40#8 && t.pc == 0x0101#16)
    (beforeRestart 0x40#8 .running 4 {}) = true := by decide

theorem test_wdt_timeout_stale : refuses .staleTimeout (beforeRestart 0x42#8 .running 5 {}) = true := by decide

/-- Restarts at once: the RESET pin, then a timeout, then a recovery; the later ones are dropped (R353). -/
theorem test_restart_order :
    runs (fun t => t.flags == 0x40#8 && !t.wdtDue) (beforeRestart 0x40#8 .halted 9 { resetPin := true, stopRecovery := true })
      = true ∧
    runs (fun t => t.flags == 0x43#8 && t.script.isEmpty)
      { beforeRestart 0x41#8 .stopped 9 { stopRecovery := true } with
        dev := { Device.default with wdtPeriod := some 5, wdtInStop := true } } = true := by decide

/-- A run that reaches `END_PC` ends before the fetch there (R352). -/
theorem test_end_pc : runs (fun t => t.ended && t.pc == 0x0100#16 && t.executed == 0)
    (start { Device.default with endPc := some 0x0100#16 } [] [0xFF#8] []) = true := by decide

theorem test_stop_recovery : runs (fun t => t.flags == 0x41#8 && restarted t && t.reg 0x43#8 == 0x5A#8)
    (beforeRestart 0x41#8 .stopped 0 { stopRecovery := true }) = true := by decide

/-- First power-on (section 2.10, last row). -/
theorem test_power_on : flagWdt State.reset.flags = false ∧ flagSmr State.reset.flags = false ∧
    masterEnable State.reset.imr = false ∧ State.reset.mode = .running ∧ State.reset.pc = 0x0020#16 := by decide

/-- The first instruction after reset, placed by `withFetchWord`: `ADD 43H,08H`. -/
theorem test_withFetchWord : runs (fun t => t.pc == 0x0023#16) (State.reset.withFetchWord 24 0x430804) = true := by decide

/-! ## Witnesses: for every obligation with hypotheses, states and operands that meet them -/

/-- Bytes at 0100H that decode to an instruction, with one byte left over. -/
theorem witness_EncodeAfterDecode : decode [0x13#8, 0x12#8, 0xFF#8] = .ok (.adc_r_Ir 1#4 2#4, [0xFF#8]) := rfl

/-- A NOP at 0100H. -/
def nopState : State := start Device.default [] [0xFF#8] []

theorem witness_StepKeepsWellFormed : nopState.wf ∧ ∃ t, step nopState = .next t := ⟨by decide, _, rfl⟩

/-- A step of a run, the step at `END_PC`, and a step of a run that has ended. -/
theorem witness_StepKeepsDevice :
    (∃ t, step nopState = .next t ∧ nopState.ended = false) ∧
    (∃ t, step { nopState with dev := { Device.default with endPc := some 0x0100#16 } } = .next t ∧ t.ended = true) ∧
    ∃ t, step { nopState with ended := true } = .next t := ⟨⟨_, rfl, rfl⟩, ⟨_, rfl, rfl⟩, _, rfl⟩

theorem witness_StepRunsDecodedInstruction :
    nopState.undisturbed ∧ (∃ t, exec .nop nopState = .next t) ∧ ¬mayWritePc .nop ∧
      nopState.holds nopState.pc [0xFF#8] ∧ decode [0xFF#8] = .ok (.nop, []) :=
  ⟨by decide, ⟨_, rfl⟩, by simp [mayWritePc, reservedInstrs], ⟨by decide, by decide, trivial⟩, rfl⟩

/-- An instruction of three bytes at the top of program memory goes on at 0000H. -/
def topState : State := State.loadProgram { State.reset with pc := 0xFFFF#16 } 0xFFFF#16 [0x04#8, 0x08#8, 0x43#8]

theorem witness_StepRunsDecodedInstruction_top :
    topState.undisturbed ∧ topState.holds topState.pc [0x04#8, 0x08#8, 0x43#8] ∧
      decode [0x04#8, 0x08#8, 0x43#8] = .ok (.add_R_R 0x43#8 0x08#8, []) :=
  ⟨by decide, ⟨by decide, by decide, by decide, by decide, by decide, by decide, trivial⟩, rfl⟩

/-- Program memory ends at 0FFFH. -/
def smallProgram : Device := { Device.default with progPresent := [⟨0x0000#16, 0x0FFF#16⟩] }

/-- The op code, and the second and the third byte of `ADD 43H,08H`, at an absent address and at one not loaded. -/
theorem witness_FetchStops :
    (let s : State := { State.reset with dev := smallProgram, pc := 0x1000#16 };
      s.undisturbed ∧ hasProgram s.dev s.pc = false) ∧
    (let s : State := { State.reset with dev := smallProgram, pc := 0x0FFF#16 };
      s.undisturbed ∧ hasProgram s.dev s.pc = true ∧ s.progByte s.pc = none) ∧ (∃ e, decode [] = .error e) ∧
    (let s := State.loadProgram { State.reset with dev := smallProgram, pc := 0x0FFF#16 } 0x0FFF#16 [0x04#8];
      s.undisturbed ∧ s.holds s.pc [0x04#8] ∧ hasProgram s.dev (s.pc + 1) = false) ∧ (∃ e, decode [0x04#8] = .error e) ∧
    (let s := State.loadProgram State.reset 0x0020#16 [0x04#8, 0x08#8];
      s.undisturbed ∧ s.holds s.pc [0x04#8, 0x08#8] ∧ s.progByte (s.pc + 2) = none) ∧
    ∃ e, decode [0x04#8, 0x08#8] = .error e :=
  ⟨by decide, by decide, ⟨_, rfl⟩, ⟨by decide, ⟨by decide, by decide, trivial⟩, by decide⟩, ⟨_, rfl⟩,
    ⟨by decide, ⟨by decide, by decide, by decide, by decide, trivial⟩, by decide⟩, _, rfl⟩

/-- Each restart cause alone and with the others, and a boundary without one in each mode. -/
theorem witness_StepDeliversEvents :
    (∀ m ∈ [Mode.running, .halted, .stopped],
      (beforeRestart 0x40#8 m 5 { resetPin := true, stopRecovery := true }).boundary.resetPin = true) ∧
    (∀ m ∈ [Mode.running, .halted],
      let s := beforeRestart 0x40#8 m 5 { stopRecovery := true }
      s.ended = false ∧ s.boundary.resetPin = false ∧ s.wdtDue = true ∧ s.boundary.wdtHeld = false) ∧
    (let s := beforeRestart 0x40#8 .stopped 5 { stopRecovery := true };
      s.boundary.resetPin = false ∧ s.wdtDue = false ∧ s.boundary.stopRecovery = true ∧ s.mode = .stopped) ∧
    (∀ m ∈ [Mode.running, .halted, .stopped],
      let s := beforeRestart 0x40#8 m 5 { wdtHeld := true, requests := [.request 7, .withdraw 7] }
      s.ended = false ∧ s.noRestart ∧ s.arrive.interruptDue = none ∧ s.dev.endPc ≠ some s.pc) ∧
    (let s := atBoundary (.fixed 0x0050#16) 0x81#8 .halted [{ requests := [.request 7, .request 3] }];
      s.ended = false ∧ s.noRestart ∧ s.arrive.interruptDue ≠ none) ∧
    (let s := { nopState with dev := { Device.default with endPc := some 0x0100#16 } };
      s.ended = false ∧ s.noRestart ∧ s.arrive.interruptDue = none ∧ s.mode = .running ∧ s.dev.endPc = some s.pc) := by
  decide

/-- Ends of a run, with requests still to come that wake nothing. -/
theorem witness_QuiescentStatesStay :
    (atBoundary (.fixed 0x0050#16) 0x01#8 .halted [{ requests := [.request 7], stopRecovery := true }]).quiescentHalt ∧
      (atBoundary (.fixed 0x0050#16) 0x81#8 .stopped [{ requests := [.request 7] }]).quiescentStop ∧
      (let s := { nopState with dev := { Device.default with endPc := some 0x0100#16 } };
        s.mode = .running ∧ s.boundary = {} ∧ s.wdtDue = false ∧ s.interruptDue = none ∧ s.dev.endPc = some s.pc) ∧
      (let s := start Device.default [(0xFC#8, 0x40#8)] [0x6F#8] [];
        (s.mode = .stopped → flagSmr s.flags = true) ∧ runs (fun t => decide (t.mode = .stopped)) s = true) := by decide

/-- Two sources pending, the second of the higher rank. -/
def twoPending : State :=
  { start { Device.default with irq := [⟨1, .whenBit 0, 1, .fixed 0x0050#16⟩, ⟨2, .whenBit 6, 9, .fixed 0x0060#16⟩] }
      [(0xFB#8, 0xC1#8)] [] [] with pending := [1, 2] }

theorem witness_InterruptCheck :
    twoPending.interruptDue = some ⟨2, .whenBit 6, 9, .fixed 0x0060#16⟩ ∧ twoPending.boundary = {} ∧ twoPending.ended = false ∧
      twoPending.wdtDue = false ∧
      (twoPending.setImr 0x41#8).interruptDue = none ∧ (twoPending.setImr 0x41#8).mode ≠ .stopped ∧
      masterEnable (twoPending.setImr 0x41#8).imr = false := by decide

/-- Entry with SP = 03H: the frame lies at 00H to 02H. -/
theorem witness_InterruptEntryFrame :
    let s := start (oneSource (.vectored 0xFFFF#16)) [(0xFF#8, 0x03#8)] [] [(0xFFFF#16, 0x12#8), (0x0000#16, 0x34#8)]
    s.dev.wf ∧ s.stackCell (s.sp - 1) ∧ s.stackCell (s.sp - 2) ∧ s.stackCell (s.sp - 3) ∧
      ∃ hi lo, s.loaded 0xFFFF#16 hi ∧ s.loaded (0xFFFF#16 + 1) lo ∧ 0x1234#16 = hi ++ lo :=
  ⟨by decide, by decide, by decide, by decide, 0x12#8, 0x34#8, by decide, by decide, by decide⟩

/-- A vectored entry whose first or second vector byte, at 0FFFH and 1000H, is absent or not loaded. -/
theorem witness_InterruptEntryFrame_vector :
    (let s := start smallProgram [(0xFF#8, 0x03#8)] [] [(0x0FFF#16, 0x12#8)];
      s.stackCell (s.sp - 1) ∧ s.stackCell (s.sp - 2) ∧ s.stackCell (s.sp - 3) ∧ hasProgram s.dev 0x1000#16 = false ∧
        s.loaded 0x0FFF#16 0x12#8 ∧ hasProgram s.dev (0x0FFF#16 + 1) = false ∧
        hasProgram s.dev 0x0FFE#16 = true ∧ s.progByte 0x0FFE#16 = none) ∧
    (let s := start Device.default [(0xFF#8, 0x03#8)] [] [(0x0004#16, 0x12#8)];
      s.stackCell (s.sp - 1) ∧ s.stackCell (s.sp - 2) ∧ s.stackCell (s.sp - 3) ∧ s.loaded 0x0004#16 0x12#8 ∧
        hasProgram s.dev (0x0004#16 + 1) = true ∧ s.progByte (0x0004#16 + 1) = none) := by decide

/-- Entry with SP = 00H: a stack cell is the SP register. -/
theorem witness_InterruptEntryFrame_refused :
    let s := start Device.default [(0xFF#8, 0x00#8)] [] []
    ¬(s.stackCell (s.sp - 1) ∧ s.stackCell (s.sp - 2) ∧ s.stackCell (s.sp - 3)) := by decide

/-- Entry with SP = FFH: a stack cell is FLAGS itself. -/
theorem witness_InterruptEntryFrame_flags :
    let s := start Device.default [(0xFF#8, 0xFF#8)] [] []
    s.dev.wf ∧ s.stackCell (s.sp - 1) ∧ s.stackCell (s.sp - 2) ∧ s.stackCell (s.sp - 3) ∧ s.sp - 3 = flagsAddr := by
  decide

/-- IRET with SP = FCH: the popped FLAGS byte is FLAGS, and the frame ends just below the SP register. -/
theorem witness_IretResult :
    let s := start Device.default [(0xFF#8, 0xFC#8)] [0xBF#8] []
    (s.dev.wf ∧ s.stackCell s.sp ∧ s.stackCell (s.sp + 1) ∧ s.stackCell (s.sp + 2)) ∧
      (let s := s.setSp 0xFD#8; ¬(s.stackCell s.sp ∧ s.stackCell (s.sp + 1) ∧ s.stackCell (s.sp + 2))) := by decide

theorem witness_IretUndoesEntry :
    let s := atBoundary (.fixed 0x0050#16) 0x81#8 .running []
    s.dev.wf ∧ (∃ t, s.interruptEntry (.fixed 0x0050#16) = .next t) ∧
      ∀ a ∈ [s.sp - 1, s.sp - 2, s.sp - 3], a ≠ flagsAddr ∧ a ≠ imrAddr :=
  ⟨by decide, ⟨_, rfl⟩, by decide⟩

theorem witness_RestartCauses :
    let s := beforeRestart 0x41#8 .stopped 0 { stopRecovery := true }
    s.dev.wf ∧ flagWdt s.flags = false ∧ s.mode = .stopped ∧
      flagWdt (beforeRestart 0x42#8 .running 5 {}).flags = true := by decide

theorem witness_LeavingStopped :
    (let s := beforeRestart 0x41#8 .stopped 0 { stopRecovery := true };
      s.dev.wf ∧ s.mode = .stopped ∧ ∃ t, step s = .next t) ∧
    (let s := atBoundary (.fixed 0x0050#16) 0x81#8 .stopped [];
      s.dev.wf ∧ s.mode = .stopped ∧ ∃ t, step s = .next t) :=
  ⟨⟨by decide, by decide, _, rfl⟩, ⟨by decide, by decide, _, rfl⟩⟩

theorem witness_LeavingHalted :
    (let s := atBoundary (.fixed 0x0050#16) 0x01#8 .halted [];
      s.dev.wf ∧ s.mode = .halted ∧ ∃ t, step s = .next t) ∧
    (let s := atBoundary (.fixed 0x0050#16) 0x81#8 .halted [{}];
      s.dev.wf ∧ s.mode = .halted ∧ ∃ t, step s = .next t) ∧
    (let s := atBoundary (.fixed 0x0050#16) 0x81#8 .halted [{ resetPin := true }];
      s.dev.wf ∧ s.mode = .halted ∧ ∃ t, step s = .next t) :=
  ⟨⟨by decide, by decide, _, rfl⟩, ⟨by decide, by decide, _, rfl⟩, ⟨by decide, by decide, _, rfl⟩⟩

/-- Working registers at 20H, pointers to 50H, packed-BCD bytes, C set. -/
def operands : State :=
  start Device.default [(0xFD#8, 0x20#8), (0xFC#8, 0x80#8), (0x21#8, 0x15#8), (0x22#8, 0x50#8), (0x43#8, 0x50#8),
    (0x50#8, 0x27#8)] [] []

/-- The six forms of the two-operand group, the register address at its bounds 00H and FFH among them. -/
def twoForms : List TwoForm :=
  [.r_r 1#4 2#4, .r_Ir 1#4 2#4, .R_R 0x00#8 0xFF#8, .R_IR 0xFF#8 0x43#8, .R_IM 0xE1#8 0xFF#8, .IR_IM 0x43#8 0x00#8]

theorem two_forms_run : ∀ f ∈ twoForms, f.src.readable operands ∧ f.dst.rewritable operands := by
  simp only [twoForms, List.forall_mem_cons, List.not_mem_nil, false_imp_iff, implies_true, and_true]
  refine ⟨⟨⟨?_, ?_⟩, ?_, ?_⟩, ⟨⟨?_, ?_⟩, ?_, ?_⟩, ⟨⟨?_, ?_⟩, ?_, ?_⟩, ⟨⟨?_, ?_⟩, ?_, ?_⟩, ⟨?_, ?_, ?_⟩, ⟨?_, ?_, ?_⟩⟩ <;>
    first | exact trivial | decide | exact ⟨rfl, rfl⟩

theorem witness_AddAndAdc : ∃ f ∈ twoForms, f.src.readable operands ∧ f.dst.rewritable operands :=
  ⟨_, by decide, two_forms_run (.r_Ir 1#4 2#4) (by decide)⟩

theorem witness_SubAndSbc : ∃ f ∈ twoForms, f.src.readable operands ∧ f.dst.rewritable operands :=
  ⟨_, by decide, two_forms_run (.R_R 0x00#8 0xFF#8) (by decide)⟩

theorem witness_LogicalTwoOperand : ∃ f ∈ twoForms, f.src.readable operands ∧ f.dst.rewritable operands :=
  ⟨_, by decide, two_forms_run (.IR_IM 0x43#8 0x00#8) (by decide)⟩

/-- FLAGS as the destination operand of a comparison or a test. -/
theorem flags_tested : (TwoForm.R_IM 0xFC#8 0x00#8).src.readable operands ∧ (TwoForm.R_IM 0xFC#8 0x00#8).dst.accessible operands :=
  ⟨trivial, trivial, rfl⟩

theorem witness_CompareAndConditions : ∃ f : TwoForm, f.src.readable operands ∧ f.dst.accessible operands :=
  ⟨_, flags_tested⟩

theorem witness_TestUnderMask : ∃ f : TwoForm, f.src.readable operands ∧ f.dst.accessible operands := ⟨_, flags_tested⟩

/-- Registers 00H to 7FH and F0H to FFH, a peripheral at 60H; R1 holds 80H and R2 60H. -/
def smallFile : State :=
  start { Device.default with rfPresent := [⟨0x00#8, 0x7F#8⟩, ⟨0xF0#8, 0xFF#8⟩], rfDevice := [⟨0x60#8, 0x60#8⟩] }
    [(0xFD#8, 0x20#8), (0x21#8, 0x80#8), (0x22#8, 0x60#8), (0xFF#8, 0x60#8)] [] []

/-- An absent source, an absent destination through a pointer, and a peripheral as a pointer. -/
theorem forms_refused :
    ¬(TwoForm.R_R 0x43#8 0x80#8).src.readable smallFile ∧ ¬(TwoForm.IR_IM 0xE1#8 0x00#8).dst.accessible smallFile ∧
      ¬(TwoForm.IR_IM 0x60#8 0x00#8).dst.accessible smallFile :=
  ⟨fun h => absurd h.2 (by decide), fun h => absurd h.2 (by decide),
    fun h => (by decide : ¬smallFile.ordinary (smallFile.reg8 0x60#8)) h.1⟩

theorem witness_CompareAndConditions_refused :
    ∃ f : TwoForm, ¬(f.src.readable smallFile ∧ f.dst.accessible smallFile) := ⟨_, fun h => forms_refused.1 h.1⟩

theorem witness_TestUnderMask_refused :
    ∃ f : TwoForm, ¬(f.src.readable smallFile ∧ f.dst.accessible smallFile) := ⟨_, fun h => forms_refused.2.1 h.2⟩

theorem witness_LoadAndClear_refused :
    ∃ f : LoadForm, ¬(f.src.readable smallFile ∧ f.dst.accessible smallFile) :=
  ⟨.IR_IM 0x60#8 0x00#8, fun h => forms_refused.2.2 h.2⟩

/-- Operands of LDC, LDCI, POP, PUSH, CALL, RET, DJNZ and JP that may not be used. -/
theorem refused_operands :
    (let s := smallFile.setRp 0x70#8;
      ¬s.pairOk (s.wr 0x3#4) ∧ ¬(smallFile.setRp 0x80#8).ordinary ((smallFile.setRp 0x80#8).wr 0x0#4) ∧
        ¬s.pairOk (s.reg8 0x60#8) ∧ ¬s.pairOk (s.reg8 0x80#8)) ∧
      ¬smallFile.stackCell smallFile.sp ∧ ¬(smallFile.setSp 0x81#8).stackCell ((smallFile.setSp 0x81#8).sp - 1) := by decide

theorem witness_LoadConstant_refused :
    let s := smallFile.setRp 0x70#8
    ¬(s.pairOk (s.wr 0x3#4) ∧ hasRegister s.dev (s.wr 1#4) = true) := fun h => refused_operands.1.1 h.1

theorem witness_StoreConstant_refused :
    let s := smallFile.setRp 0x70#8
    ¬(s.pairOk (s.wr 0x3#4) ∧ hasRegister s.dev (s.wr 1#4) = true) := fun h => refused_operands.1.1 h.1

theorem witness_BlockLoad_refused :
    let s := smallFile.setRp 0x80#8
    ¬(s.ordinary (s.wr 0x0#4) ∧ s.pairOk (s.wr 2#4) ∧ hasRegister s.dev (s.reg (s.wr 0x0#4)) = true) :=
  fun h => refused_operands.1.2.1 h.1

theorem witness_BlockStore_refused :
    let s := smallFile.setRp 0x80#8
    ¬(s.ordinary (s.wr 0x0#4) ∧ s.pairOk (s.wr 2#4) ∧ hasRegister s.dev (s.reg (s.wr 0x0#4)) = true) :=
  fun h => refused_operands.1.2.1 h.1

theorem witness_PopResult_refused :
    ¬(smallFile.stackCell smallFile.sp ∧ (OneForm.R 0x43#8).loc.accessible smallFile) :=
  fun h => refused_operands.2.1 h.1

theorem witness_PushResult_refused :
    let s := smallFile.setSp 0x81#8
    ¬(s.stackCell (s.sp - 1) ∧ (OneForm.R 0x43#8).loc.accessible s) := fun h => refused_operands.2.2 h.1

theorem witness_CallResult_refused :
    let s := smallFile.setSp 0x81#8
    ¬(s.stackCell (s.sp - 2) ∧ s.stackCell (s.sp - 1)) ∧
      ¬(s.pairOk (s.reg8 0x60#8) ∧ s.stackCell (s.sp - 2) ∧ s.stackCell (s.sp - 1)) :=
  ⟨fun h => refused_operands.2.2 h.2, fun h => refused_operands.2.2 h.2.2⟩

theorem witness_RetResult_refused : ¬(smallFile.stackCell smallFile.sp ∧ smallFile.stackCell (smallFile.sp + 1)) :=
  fun h => refused_operands.2.1 h.1

theorem witness_DjnzResult_refused : ¬(smallFile.setRp 0x80#8).ordinary ((smallFile.setRp 0x80#8).wr 0x0#4) :=
  refused_operands.1.2.1

theorem witness_JumpResult_refused :
    ¬(smallFile.setRp 0x70#8).pairOk ((smallFile.setRp 0x70#8).reg8 0x80#8) := refused_operands.1.2.2.2

/-- A register named directly, at the bounds of the address range and through the E escape, and one through a pointer. -/
def oneForms : List OneForm := [.R 0x00#8, .R 0xFF#8, .R 0xE1#8, .IR 0x43#8]

theorem one_forms_run : ∀ f ∈ oneForms, f.loc.rewritable operands := by
  simp only [oneForms, List.forall_mem_cons, List.not_mem_nil, false_imp_iff, implies_true, and_true]
  refine ⟨⟨?_, ?_⟩, ⟨?_, ?_⟩, ⟨?_, ?_⟩, ⟨?_, ?_⟩⟩ <;> first | exact trivial | decide | exact ⟨rfl, rfl⟩

/-- DA on the default device, after a subtraction, and on a device whose `DA_FN` is free. -/
theorem witness_DecimalAdjust :
    (∃ f ∈ oneForms, f.loc.rewritable operands) ∧ operands.dev.daFn = .family ∧ flagD operands.flags = false ∧
      (let s := start Device.default [(0xFC#8, 0x08#8)] [] [];
        (OneForm.R 0x43#8).loc.rewritable s ∧ s.dev.daFn = .family ∧ flagD s.flags = true) ∧
      (let s := start { Device.default with daFn := .free } [] [] [];
        (OneForm.R 0x43#8).loc.rewritable s ∧ s.dev.daFn = .free) :=
  ⟨⟨_, by decide, one_forms_run (.IR 0x43#8) (by decide)⟩, rfl, by decide,
    ⟨⟨trivial, by decide, by decide⟩, rfl, by decide⟩, ⟨trivial, by decide, by decide⟩, rfl⟩

/-- One byte at the bounds of each row of the table. -/
theorem witness_DecimalAdjustTable : 0x0 ≤ (0x99#8).toNat / 16 ∧ (0x99#8).toNat / 16 ≤ 0x9 ∧ (0x99#8).toNat % 16 ≤ 0x9 ∧
    0xA ≤ (0xFF#8).toNat % 16 ∧ 0x9 ≤ (0xFF#8).toNat / 16 ∧ (0x33#8).toNat / 16 ≤ 0x3 ∧ (0x33#8).toNat % 16 ≤ 0x3 ∧
    (0x8F#8).toNat / 16 ≤ 0x8 ∧ 0x6 ≤ (0x66#8).toNat / 16 ∧ 0x6 ≤ (0x66#8).toNat % 16 ∧ (0x2F#8).toNat / 16 ≤ 0x2 ∧
    0x7 ≤ (0x70#8).toNat / 16 ∧ 0xA ≤ (0xA0#8).toNat / 16 := by decide

/-- `ADD R1,@R2` and then `DA R1` on 15H and 27H. -/
theorem witness_DecimalArithmetic :
    let isBcd := fun x : Byte => x.toNat / 16 ≤ 9 ∧ x.toNat % 16 ≤ 9
    let f := TwoForm.r_Ir 1#4 2#4
    operands.dev.daFn = .family ∧ isBcd (operands.reg (f.dst.address operands)) ∧ isBcd (f.src.value operands) ∧
      ∀ i ∈ [addInstr f, adcInstr f, subInstr f, sbcInstr f], ∃ t u, exec i operands = .next t ∧
        (OneForm.R 0xE1#8).loc.rewritable t ∧ (OneForm.R 0xE1#8).loc.address t = f.dst.address operands ∧
        exec (daInstr (.R 0xE1#8)) t = .next u := by
  refine ⟨rfl, by decide, by decide, ?_⟩
  simp only [List.forall_mem_cons, List.not_mem_nil, false_imp_iff, implies_true, and_true]
  exact ⟨⟨_, _, rfl, ⟨trivial, by decide, by decide⟩, by decide, rfl⟩, ⟨_, _, rfl, ⟨trivial, by decide, by decide⟩, by decide, rfl⟩,
    ⟨_, _, rfl, ⟨trivial, by decide, by decide⟩, by decide, rfl⟩, ⟨_, _, rfl, ⟨trivial, by decide, by decide⟩, by decide, rfl⟩⟩

theorem witness_IncAndDec :
    (IncForm.r 0xF#4).loc.rewritable operands ∧ (IncForm.R 0x00#8).loc.rewritable operands ∧
      (IncForm.IR 0x43#8).loc.rewritable operands ∧ (OneForm.R 0xFF#8).loc.rewritable operands :=
  ⟨⟨trivial, by decide, by decide⟩, ⟨trivial, by decide, by decide⟩,
    ⟨⟨rfl, rfl⟩, by decide, by decide⟩, ⟨trivial, by decide, by decide⟩⟩

/-- The last pair of the register file, and one through a pointer. -/
theorem witness_IncwAndDecw :
    ((OneForm.R 0xFE#8).loc.pointerOk operands ∧ operands.pairOk ((OneForm.R 0xFE#8).loc.address operands) ∧
      (OneForm.R 0xFE#8).loc.address operands ≠ flagsAddr) ∧
    ((OneForm.IR 0x43#8).loc.pointerOk operands ∧ operands.pairOk ((OneForm.IR 0x43#8).loc.address operands) ∧
      (OneForm.IR 0x43#8).loc.address operands ≠ flagsAddr) :=
  ⟨⟨trivial, by decide, by decide⟩, ⟨⟨rfl, rfl⟩, by decide, by decide⟩⟩

theorem witness_ComAndSwap : ∃ f ∈ oneForms, f.loc.rewritable operands :=
  ⟨_, by decide, one_forms_run (.R 0x00#8) (by decide)⟩

theorem witness_Rotates : ∃ f ∈ oneForms, f.loc.rewritable operands :=
  ⟨_, by decide, one_forms_run (.R 0xE1#8) (by decide)⟩

theorem witness_ShiftRightArithmetic : ∃ f ∈ oneForms, f.loc.rewritable operands :=
  ⟨_, by decide, one_forms_run (.R 0xFF#8) (by decide)⟩

theorem witness_RepeatedRotatesRestore :
    operands.ordinary (operands.reg8 0xE1#8) ∧ operands.reg8 0xE1#8 ≠ flagsAddr ∧ operands.reg8 0xE1#8 ≠ rpAddr := by
  decide

theorem witness_FlagsDestinationRefused :
    (let f := TwoForm.R_IM 0xFC#8 0x80#8;
      f.src.readable operands ∧ f.dst.pointerOk operands ∧ operands.ordinary flagsAddr ∧
        f.dst.address operands = flagsAddr) ∧
    (let f := OneForm.R 0xFC#8;
      f.loc.pointerOk operands ∧ operands.ordinary flagsAddr ∧ operands.pairOk flagsAddr ∧
        f.loc.address operands = flagsAddr) ∧
    (let f := IncForm.r 0xC#4;
      let s := operands.setRp 0xF0#8;
      f.loc.pointerOk s ∧ s.ordinary flagsAddr ∧ f.loc.address s = flagsAddr) :=
  ⟨⟨trivial, trivial, by decide, by decide⟩, ⟨trivial, by decide, by decide, by decide⟩, trivial, by decide, by decide⟩

/-- `DECW @43H` with 51H in register 43H, and odd operands at the bounds of their range. -/
theorem witness_WellFormedNeverOddPair :
    (let s := operands.setReg 0x43#8 0x51#8;
      (Instr.decw_IR 0x43#8).wellFormed s.dev.ldcNibbles = true ∧ exec (.decw_IR 0x43#8) s = .refused .oddPair ∧
        s.ordinary (s.reg8 0x43#8) ∧ (s.reg (s.reg8 0x43#8)).getLsbD 0 = true) ∧
    (0x01#8).getLsbD 0 = true ∧ (0xFF#8).getLsbD 0 = true ∧ (0xF#4).getLsbD 0 = true ∧
      operands.ordinary (operands.wr 0x0#4) :=
  ⟨⟨by decide, rfl, by decide, by decide⟩, by decide⟩

/-- A device with peripheral registers at 60H to 6FH. -/
def peripherals : Device := { Device.default with rfDevice := [⟨0x60#8, 0x6F#8⟩] }

/-- Every form of LD and CLR; register 60H is a peripheral, as a destination and as a source. -/
theorem witness_LoadAndClear :
    let s := start peripherals [(0xFD#8, 0x20#8), (0x21#8, 0x60#8), (0x22#8, 0x6F#8)] [] []
    (∀ f ∈ [LoadForm.clr_R 0x60#8, .r_IM 1#4 0#8, .r_R 0xF#4 0x60#8, .R_r 0x6F#8 0#4, .R_R 0xFF#8 0x00#8, .R_IM 0xFC#8 0#8],
      hasRegister s.dev (f.dst.address s) = true) ∧
    (∀ f ∈ [LoadForm.clr_IR 0xE1#8, .r_X 1#4 2#4 0x00#8, .X_r 1#4 2#4 0xFF#8, .r_Ir 1#4 2#4, .Ir_r 1#4 2#4, .R_IR 0x00#8 0xE1#8,
        .IR_IM 0xE1#8 0#8, .IR_R 0xE1#8 0x60#8], hasRegister s.dev (f.dst.address s) = true) ∧
    (LoadForm.r_Ir 1#4 2#4).src.readable s ∧ (LoadForm.r_Ir 1#4 2#4).dst.accessible s ∧
    (LoadForm.X_r 1#4 2#4 0xFF#8).src.readable s ∧ (LoadForm.X_r 1#4 2#4 0xFF#8).dst.accessible s ∧
    isDevice s.dev 0x60#8 = true :=
  ⟨by decide, by decide, ⟨⟨rfl, rfl⟩, by decide⟩, ⟨trivial, by decide⟩, ⟨trivial, by decide⟩,
    ⟨⟨rfl, rfl⟩, by decide⟩, by decide⟩

/-- Working registers at 20H; R2, R3 hold the last address of program memory, FFFFH or 0FFFH. -/
def constants (d : Device) (hi : Byte) : State :=
  start d [(0xFD#8, 0x20#8), (0x21#8, 0x43#8), (0x22#8, hi), (0x23#8, 0xFF#8), (0x43#8, 0x5A#8)] [] [(0xFFFF#16, 0x9A#8)]

theorem witness_LoadConstant :
    (let s := constants Device.default 0xFF#8;
      s.pairOk (s.wr 2#4) ∧ hasRegister s.dev (s.wr 1#4) = true ∧ s.loaded (s.reg (s.wr 2#4) ++ s.reg (s.wr 2#4 + 1)) 0x9A#8) ∧
    (let s := constants smallProgram 0x10#8;
      s.pairOk (s.wr 2#4) ∧ hasRegister s.dev (s.wr 1#4) = true ∧
        hasProgram s.dev (s.reg (s.wr 2#4) ++ s.reg (s.wr 2#4 + 1)) = false) ∧
    (let s := constants smallProgram 0x0F#8;
      s.pairOk (s.wr 2#4) ∧ hasRegister s.dev (s.wr 1#4) = true ∧
        hasProgram s.dev (s.reg (s.wr 2#4) ++ s.reg (s.wr 2#4 + 1)) = true ∧
        s.progByte (s.reg (s.wr 2#4) ++ s.reg (s.wr 2#4 + 1)) = none) := by decide

theorem witness_StoreConstant :
    ∀ d ∈ [Device.default, { Device.default with progWrite := .ignore }, { Device.default with progWrite := .refuse }],
      let s := constants d 0xFF#8
      s.pairOk (s.wr 2#4) ∧ hasRegister s.dev (s.wr 1#4) = true ∧
        hasProgram s.dev (s.reg (s.wr 2#4) ++ s.reg (s.wr 2#4 + 1)) = true := by decide

theorem witness_PopResult :
    let s := start peripherals [(0xFF#8, 0xFE#8), (0x43#8, 0x60#8)] [] []
    s.stackCell s.sp ∧ (OneForm.R 0xFC#8).loc.accessible s ∧ (OneForm.R 0xFC#8).loc.address s ≠ s.dev.spAddr ∧
      (OneForm.IR 0x43#8).loc.accessible s ∧ isDevice s.dev ((OneForm.IR 0x43#8).loc.address s) = true ∧
      (OneForm.R 0xFF#8).loc.accessible s ∧ (OneForm.R 0xFF#8).loc.address s = s.dev.spAddr :=
  ⟨by decide, ⟨trivial, by decide⟩, by decide, ⟨⟨rfl, rfl⟩, by decide⟩, by decide, ⟨trivial, by decide⟩, by decide⟩

theorem witness_PushResult :
    let s := start peripherals [(0xFF#8, 0x01#8), (0x43#8, 0x60#8)] [] []
    s.stackCell (s.sp - 1) ∧ (OneForm.IR 0x43#8).loc.accessible s ∧ (OneForm.IR 0x43#8).loc.address s ≠ s.dev.spAddr ∧
      (OneForm.R 0xFF#8).loc.accessible s ∧ (OneForm.R 0xFF#8).loc.address s = s.dev.spAddr :=
  ⟨by decide, ⟨⟨rfl, rfl⟩, by decide⟩, by decide, ⟨trivial, by decide⟩, by decide⟩

theorem witness_PushThenPop :
    operands.dev.wf ∧ operands.ordinary (operands.reg8 0xFC#8) ∧ operands.reg8 0xFC#8 ≠ operands.dev.spAddr ∧
      operands.stackCell (operands.sp - 1) ∧ operands.sp - 1 ≠ rpAddr := by decide

theorem witness_OverlapsRefused :
    (let s := start Device.default [(0xFF#8, 0xFF#8)] [] []; s.sp = s.dev.spAddr) ∧
    (let s := start Device.default [(0xFF#8, 0x00#8)] [] [];
      (OneForm.R 0x43#8).loc.accessible s ∧ (OneForm.R 0x43#8).loc.address s ≠ s.dev.spAddr ∧
        s.sp - 1 = s.dev.spAddr ∧ s.ordinary (s.sp - 2)) ∧
    (let s := start Device.default [(0xFF#8, 0x01#8)] [] []; s.sp - 2 = s.dev.spAddr ∧ s.pairOk (s.reg8 0xE4#8)) ∧
    (let s := start Device.default [(0xFF#8, 0xFE#8)] [] []; s.ordinary s.sp ∧ s.sp + 1 = s.dev.spAddr) ∧
    (let s := start Device.default [(0xFF#8, 0xFD#8)] [] [];
      s.ordinary s.sp ∧ s.ordinary (s.sp + 1) ∧ s.sp + 2 = s.dev.spAddr) ∧
    (let s := start Device.default [(0xFF#8, 0x02#8)] [] [];
      s.ordinary (s.sp - 2) ∧ s.ordinary (s.sp - 1) ∧ s.sp - 3 = s.dev.spAddr) ∧
    (let s := operands.setReg 0x21#8 0x22#8;
      s.ordinary (s.wr 1#4) ∧ s.pairOk (s.wr 2#4) ∧ hasRegister s.dev (s.reg (s.wr 1#4)) = true ∧
        s.reg (s.wr 1#4) ∈ [s.wr 1#4, s.wr 2#4, s.wr 2#4 + 1] ∧ s.wr 3#4 ∈ [s.wr 2#4, s.wr 2#4 + 1]) :=
  ⟨by decide, ⟨⟨trivial, by decide⟩, by decide, by decide, by decide⟩, by decide, by decide, by decide, by decide,
    by decide⟩

theorem witness_BlockLoad :
    let s := constants Device.default 0xFF#8
    s.ordinary (s.wr 1#4) ∧ s.pairOk (s.wr 2#4) ∧ hasRegister s.dev (s.reg (s.wr 1#4)) = true ∧
      s.reg (s.wr 1#4) ∉ [s.wr 1#4, s.wr 2#4, s.wr 2#4 + 1] ∧ s.wr 1#4 ∉ [s.wr 2#4, s.wr 2#4 + 1] ∧
      s.loaded (s.reg (s.wr 2#4) ++ s.reg (s.wr 2#4 + 1)) 0x9A#8 := by decide

/-- The destination cell is a peripheral register. -/
theorem witness_BlockLoad_peripheral :
    let s := (constants peripherals 0xFF#8).setReg 0x21#8 0x60#8
    s.ordinary (s.wr 1#4) ∧ s.pairOk (s.wr 2#4) ∧ hasRegister s.dev (s.reg (s.wr 1#4)) = true ∧
      s.reg (s.wr 1#4) ∉ [s.wr 1#4, s.wr 2#4, s.wr 2#4 + 1] ∧ s.wr 1#4 ∉ [s.wr 2#4, s.wr 2#4 + 1] ∧
      s.loaded (s.reg (s.wr 2#4) ++ s.reg (s.wr 2#4 + 1)) 0x9A#8 ∧ isDevice s.dev (s.reg (s.wr 1#4)) = true := by decide

theorem witness_BlockStore :
    ∀ d ∈ [Device.default, { Device.default with progWrite := .ignore }, { Device.default with progWrite := .refuse }],
      let s := constants d 0xFF#8
      s.ordinary (s.wr 1#4) ∧ s.pairOk (s.wr 2#4) ∧ hasRegister s.dev (s.reg (s.wr 1#4)) = true ∧
        s.reg (s.wr 1#4) ∉ [s.wr 1#4, s.wr 2#4, s.wr 2#4 + 1] ∧ s.wr 1#4 ∉ [s.wr 2#4, s.wr 2#4 + 1] ∧
        hasProgram s.dev (s.reg (s.wr 2#4) ++ s.reg (s.wr 2#4 + 1)) = true := by decide

/-- SP = 01H + 1: the return address goes to 00H and 01H; CALL through the pair E4H. -/
theorem witness_CallResult :
    let s := start Device.default [(0xFF#8, 0x02#8)] [] []
    s.stackCell (s.sp - 2) ∧ s.stackCell (s.sp - 1) ∧ s.pairOk (s.reg8 0xE4#8) := by decide

/-- SP = FDH: the two bytes end just below the SP register. -/
theorem witness_RetResult :
    let s := start Device.default [(0xFF#8, 0xFD#8)] [] []
    s.stackCell s.sp ∧ s.stackCell (s.sp + 1) := by decide

theorem witness_CallThenRet :
    (∃ t, exec (.call_DA 0x0123#16) operands = .next t) ∧ ∃ t, exec (.call_IRR 0x22#8) operands = .next t :=
  ⟨⟨_, rfl⟩, _, rfl⟩

theorem witness_DjnzResult : operands.ordinary (operands.wr 0x0#4) ∧ operands.ordinary (operands.wr 0xF#4) := by decide

theorem witness_JumpResult : operands.pairOk (operands.reg8 0xFE#8) := by decide

theorem witness_InterruptEnableInstructions :
    twoPending.mode = .running ∧
      ∃ x ∈ twoPending.dev.irq, x.name ∈ twoPending.pending ∧ irqEnabled x.enable twoPending.imr = true :=
  ⟨rfl, ⟨2, .whenBit 6, 9, .fixed 0x0060#16⟩, by decide⟩

theorem witness_HaltAndStop :
    (flagWdt operands.flags = false ∧ flagSmr operands.flags = false) ∧ flagSmr (operands.setFlags 0x01#8).flags = true ∧
      flagWdt (operands.setFlags 0x02#8).flags = true := by decide

theorem witness_NopAndReserved :
    (0x0F#8, Instr.reserved_0F) ∈ reservedInstrs ∧ (0xF7#8, Instr.reserved_F7) ∈ reservedInstrs ∧
      (∀ l ∈ [ReservedLen.one, .column, .free], (start { Device.default with reservedLen := l } [] [] []).dev.reservedLen ≠ .refuse) ∧
      (start { Device.default with reservedLen := .refuse } [] [] []).dev.reservedLen = .refuse := by decide

theorem witness_StopsOnlyWhereTheSpecRefuses :
    operands.dev.full ∧ (∀ a, hasProgram operands.dev a = true) ∧ operands.dev.progWrite ≠ .refuse ∧
      operands.dev.reservedLen ≠ .refuse := by
  refine ⟨by decide, fun a => ?_, by decide, by decide⟩
  have h : a ≤ 0xFFFF#16 := by bv_omega
  have h' : 0#16 ≤ a := by bv_omega
  show hasProgram Device.default a = true
  simp [hasProgram, Device.default, h, h']

theorem witness_InstructionsLeaveTheRest :
    (∃ t, exec .halt operands = .next t) ∧ (∃ t, exec .wdt operands = .next t) ∧
      ∃ t, exec (.ld_R_IM 0x60#8 0x5A#8) (start peripherals [] [] []) = .next t := ⟨⟨_, rfl⟩, ⟨_, rfl⟩, _, rfl⟩

theorem witness_ProgramMemoryChangesOnlyByStores :
    (∃ t, exec (.ldc_Irr_r 2#4 1#4) (constants Device.default 0xFF#8) = .next t) ∧ ∃ t, exec .nop operands = .next t :=
  ⟨⟨_, rfl⟩, _, rfl⟩

theorem witness_PeripheralCellsUntouched :
    let s := start peripherals [] [] []
    s.dev.wf ∧ (∃ t, exec (.ld_R_IM 0x60#8 0x5A#8) s = .next t) ∧ isDevice s.dev 0x60#8 = true ∧
      isDevice s.dev 0x6F#8 = true := ⟨by decide, ⟨_, rfl⟩, by decide, by decide⟩

end Sys2Proof.Tests
end

section
/-! SUPPORT. What an instruction can be: one of a few shared shapes, or one of the meanings written out on their own. A
statement about every instruction is a case analysis over `exec_shape`, not over the 151 rows of the table. -/

namespace Sys2Proof.Machine

/-- The meanings there are. `ExecShape i m` says that `m` is a meaning that instruction `i` may have: a shared shape with
some parameters, or a meaning of its own. What an operation computes may depend on the flags and the device, so `f`
takes the state. -/
inductive ExecShape : Instr → (State → Result) → Prop where
  | load {i} (dst : Loc) (src : Src) (length : Word) : ExecShape i (Machine.load dst src length)
  | combine {i} (f : State → Byte → Byte → Byte × FlagUpdate) (dst : Loc) (src : Src) (length : Word) :
      ExecShape i fun s => Machine.combine (f s) dst src length s
  | testOperands {i} (f : Byte → Byte → FlagUpdate) (dst : Loc) (src : Src) (length : Word) :
      ExecShape i (Machine.testOperands f dst src length)
  | modify {i} (f : State → Byte → Byte × FlagUpdate) (dst : Loc) (length : Word) :
      ExecShape i fun s => Machine.modify (f s) dst length s
  | modifyPair {i} (f : Word → Word × FlagUpdate) (dst : Loc) (length : Word) :
      ExecShape i (Machine.modifyPair f dst length)
  | popTo {i} (dst : Loc) : ExecShape i (Machine.popTo dst)
  | pushFrom {i} (src : Loc) : ExecShape i (Machine.pushFrom src)
  | jumpIf {i} (cc : Cond) (target : State → Word) (length : Word) :
      ExecShape i fun s => Machine.jumpIf cc (target s) length s
  | reservedNop {i} (opcode : Byte) : ExecShape i (Machine.reservedNop opcode)
  | updateFlags {i} (u : State → FlagUpdate) : ExecShape i fun s => .next ((s.updateFlags (u s)).advance 1)
  | setImr {i} (v : State → Byte) : ExecShape i fun s => .next ((s.setImr (v s)).advance 1)
  | ldc_r_Irr (dst p : Nibble) : ExecShape (.ldc_r_Irr dst p) (execLdc_r_Irr dst p)
  | ldc_Irr_r (hi lo : Nibble) : ExecShape (.ldc_Irr_r hi lo) (execLdc_Irr_r hi lo)
  | ldci_Ir_Irr (n p : Nibble) : ExecShape (.ldci_Ir_Irr n p) (execLdci_Ir_Irr n p)
  | ldci_Irr_Ir (hi lo : Nibble) : ExecShape (.ldci_Irr_Ir hi lo) (execLdci_Irr_Ir hi lo)
  | call_DA (target : Word) : ExecShape (.call_DA target) (execCall_DA target)
  | call_IRR (b : Byte) : ExecShape (.call_IRR b) (execCall_IRR b)
  | djnz_r_RA (n : Nibble) (offset : Byte) : ExecShape (.djnz_r_RA n offset) (execDjnz_r_RA n offset)
  | jp_IRR (b : Byte) : ExecShape (.jp_IRR b) (execJp_IRR b)
  | srp_IM (imm : Byte) : ExecShape (.srp_IM imm) (execSrp_IM imm)
  | ret : ExecShape .ret execRet
  | iret : ExecShape .iret execIret
  | nop : ExecShape .nop execNop
  | halt : ExecShape .halt execHalt
  | stop : ExecShape .stop execStop
  | wdt : ExecShape .wdt execWdt

/-- Every row of the op code map has one of the shapes, read off its arm of `exec`. -/
theorem exec_shape (i : Instr) : ExecShape i (exec i) := by
  cases i with
  | add_r_r | add_r_Ir | add_R_R | add_R_IR | add_R_IM | add_IR_IM
  | adc_r_r | adc_r_Ir | adc_R_R | adc_R_IR | adc_R_IM | adc_IR_IM
  | sub_r_r | sub_r_Ir | sub_R_R | sub_R_IR | sub_R_IM | sub_IR_IM
  | sbc_r_r | sbc_r_Ir | sbc_R_R | sbc_R_IR | sbc_R_IM | sbc_IR_IM
  | and_r_r | and_r_Ir | and_R_R | and_R_IR | and_R_IM | and_IR_IM
  | or_r_r | or_r_Ir | or_R_R | or_R_IR | or_R_IM | or_IR_IM
  | xor_r_r | xor_r_Ir | xor_R_R | xor_R_IR | xor_R_IM | xor_IR_IM => exact .combine _ _ _ _
  | cp_r_r | cp_r_Ir | cp_R_R | cp_R_IR | cp_R_IM | cp_IR_IM
  | tcm_r_r | tcm_r_Ir | tcm_R_R | tcm_R_IR | tcm_R_IM | tcm_IR_IM
  | tm_r_r | tm_r_Ir | tm_R_R | tm_R_IR | tm_R_IM | tm_IR_IM => exact .testOperands _ _ _ _
  | dec_R | dec_IR | inc_r | inc_R | inc_IR | da_R | da_IR | com_R | com_IR | swap_R | swap_IR
  | rl_R | rl_IR | rlc_R | rlc_IR | rr_R | rr_IR | rrc_R | rrc_IR | sra_R | sra_IR => exact .modify _ _ _
  | decw_RR | decw_IR | incw_RR | incw_IR => exact .modifyPair _ _ _
  | clr_R | clr_IR | ld_r_IM | ld_r_R | ld_R_r | ld_r_X | ld_X_r | ld_r_Ir | ld_Ir_r
  | ld_R_R | ld_R_IR | ld_R_IM | ld_IR_IM | ld_IR_R => exact .load _ _ _
  | pop_R | pop_IR => exact .popTo _
  | push_R | push_IR => exact .pushFrom _
  | jp_cc_DA | jr_cc_RA => exact .jumpIf _ _ _
  | ccf | rcf | scf => exact .updateFlags _
  | di | ei => exact .setImr _
  | reserved_0F | reserved_1F | reserved_2F | reserved_3F | reserved_4F
  | reserved_82 | reserved_83 | reserved_84 | reserved_85 | reserved_86 | reserved_87
  | reserved_92 | reserved_93 | reserved_94 | reserved_95 | reserved_96 | reserved_97
  | reserved_C4 | reserved_C5 | reserved_C6 | reserved_D5 | reserved_E2
  | reserved_F2 | reserved_F4 | reserved_F6 | reserved_F7 => exact .reservedNop _
  | ldc_r_Irr dst p => exact .ldc_r_Irr dst p
  | ldc_Irr_r hi lo => exact .ldc_Irr_r hi lo
  | ldci_Ir_Irr n p => exact .ldci_Ir_Irr n p
  | ldci_Irr_Ir hi lo => exact .ldci_Irr_Ir hi lo
  | call_DA target => exact .call_DA target
  | call_IRR b => exact .call_IRR b
  | djnz_r_RA n offset => exact .djnz_r_RA n offset
  | jp_IRR b => exact .jp_IRR b
  | srp_IM imm => exact .srp_IM imm
  | ret => exact .ret
  | iret => exact .iret
  | nop => exact .nop
  | halt => exact .halt
  | stop => exact .stop
  | wdt => exact .wdt

end Sys2Proof.Machine
end

section
/-! SUPPORT. What every instruction leaves alone: all but HALT, STOP and WDT change only registers, program memory and pc,
or hand the environment one byte written to a peripheral register. -/

namespace Sys2Proof.Machine

/-- Between `s` and `t` only registers, program memory and pc may differ, but for at most one byte that was written to a
peripheral register (10_state.md R25). -/
def LeavesRest (s t : State) : Prop :=
  SameRest s t ∨ ∃ a v, isDevice s.dev a = true ∧ SameRest (s.emit (.deviceWrite a v)) t

variable {s t : State}

theorem SameRest.refl (s : State) : SameRest s s := ⟨rfl, rfl, rfl, rfl, rfl, rfl, rfl, rfl⟩

@[simp] theorem LeavesRest.refl (s : State) : LeavesRest s s := .inl (.refl s)

/-! Each update of a register, a program byte or pc adds nothing to what differs. -/

@[simp] theorem leavesRest_setReg (a v : Byte) : LeavesRest s (t.setReg a v) ↔ LeavesRest s t := Iff.rfl
@[simp] theorem leavesRest_setFlags (v : Byte) : LeavesRest s (t.setFlags v) ↔ LeavesRest s t := Iff.rfl
@[simp] theorem leavesRest_setRp (v : Byte) : LeavesRest s (t.setRp v) ↔ LeavesRest s t := Iff.rfl
@[simp] theorem leavesRest_setImr (v : Byte) : LeavesRest s (t.setImr v) ↔ LeavesRest s t := Iff.rfl
@[simp] theorem leavesRest_setSp (v : Byte) : LeavesRest s (t.setSp v) ↔ LeavesRest s t := Iff.rfl
@[simp] theorem leavesRest_setPair (a : Byte) (v : Word) : LeavesRest s (t.setPair a v) ↔ LeavesRest s t := Iff.rfl
@[simp] theorem leavesRest_updateFlags (u : FlagUpdate) : LeavesRest s (t.updateFlags u) ↔ LeavesRest s t := Iff.rfl
@[simp] theorem leavesRest_pushWord (v : Word) : LeavesRest s (t.pushWord v) ↔ LeavesRest s t := Iff.rfl
@[simp] theorem leavesRest_setProgByte (a : Word) (v : Byte) : LeavesRest s (t.setProgByte a v) ↔ LeavesRest s t := Iff.rfl
@[simp] theorem leavesRest_goto (target : Word) : LeavesRest s (t.goto target) ↔ LeavesRest s t := Iff.rfl
@[simp] theorem leavesRest_advance (length : Word) : LeavesRest s (t.advance length) ↔ LeavesRest s t := Iff.rfl
@[simp] theorem leavesRest_interruptFrame : LeavesRest s t.interruptFrame ↔ LeavesRest s t := by
  simp [State.interruptFrame]
@[simp] theorem leavesRest_interruptReturn : LeavesRest s t.interruptReturn ↔ LeavesRest s t := by
  simp [State.interruptReturn]

/-- A plain write hands over one event, or stores to a register. -/
@[simp] theorem State.leavesRest_put (s : State) (a v : Byte) : LeavesRest s (s.put a v) := by
  cases h : isDevice s.dev a with
  | false => simp [State.put_of_ordinary h]
  | true => exact .inr ⟨a, v, h, State.put_of_device h v ▸ .refl _⟩

/-- A store to program memory leaves the rest alone when what follows it in the instruction does. -/
theorem State.leavesRest_storeProgByte {a : Word} {v : Byte} {k : State → State}
    (hk : ∀ u, LeavesRest s u → LeavesRest s (k u)) (h : s.storeProgByte a v k = .next t) : LeavesRest s t := by
  obtain ⟨-, ⟨-, rfl⟩ | ⟨-, rfl⟩⟩ := State.storeProgByte_next.mp h
  · exact hk s (.refl s)
  · exact hk _ (by simp)

theorem leavesRest_reservedNop {opcode : Byte} (h : reservedNop opcode s = .next t) : LeavesRest s t := by
  unfold reservedNop at h
  split at h <;> cases h <;> simp

/-- A meaning of every shape but HALT, STOP and WDT leaves the rest alone. -/
theorem ExecShape.leavesRest {i : Instr} {m : State → Result} (h : ExecShape i m) (hh : i ≠ .halt) (hs : i ≠ .stop)
    (hw : i ≠ .wdt) (hm : m s = .next t) : LeavesRest s t := by
  cases h with
  | load =>
    obtain ⟨-, rfl⟩ := load_next.mp hm
    simp
  | ldc_r_Irr | ldci_Ir_Irr =>
    obtain ⟨-, hm⟩ := guarded_next.mp hm
    obtain ⟨-, v, -, hv⟩ := State.withProgByte_next.mp hm
    cases hv
    simp
  | ldc_Irr_r | ldci_Irr_Ir =>
    obtain ⟨-, hm⟩ := guarded_next.mp hm
    exact State.leavesRest_storeProgByte (fun u hu => by simpa using hu) hm
  | combine =>
    obtain ⟨-, rfl⟩ := combine_next.mp hm
    simp
  | testOperands =>
    obtain ⟨-, rfl⟩ := testOperands_next.mp hm
    simp
  | modify =>
    obtain ⟨-, rfl⟩ := modify_next.mp hm
    simp
  | modifyPair =>
    obtain ⟨-, rfl⟩ := modifyPair_next.mp hm
    simp
  | reservedNop => exact leavesRest_reservedNop hm
  | popTo | pushFrom | call_DA | call_IRR | djnz_r_RA | jp_IRR | ret | iret =>
    obtain ⟨-, hm⟩ := guarded_next.mp hm
    cases hm
    simp
  | jumpIf | updateFlags | setImr | srp_IM | nop =>
    cases hm
    simp
  | halt => exact absurd rfl hh
  | stop => exact absurd rfl hs
  | wdt => exact absurd rfl hw

/-- Every instruction but HALT, STOP and WDT leaves the rest of the machine alone. -/
theorem exec_leavesRest {i : Instr} (hh : i ≠ .halt) (hs : i ≠ .stop) (hw : i ≠ .wdt) (h : exec i s = .next t) :
    LeavesRest s t := (exec_shape i).leavesRest hh hs hw h

/-! ## HALT, STOP and WDT -/

theorem exec_halt_next : exec .halt s = .next t ↔ t = { s.advance 1 with mode := .halted } := by
  show execHalt s = .next t ↔ _
  simp only [execHalt, Host.Outcome.next.injEq, eq_comm (b := t)]

theorem exec_stop_next :
    exec .stop s = .next t ↔ (flagSmr s.flags = false ∧ flagWdt s.flags = false) ∧
      t = { (s.setFlags (s.flags ||| 0x01#8)).advance 1 with mode := .stopped } := by
  show execStop s = .next t ↔ _
  simp only [execStop, guarded_next, noStop_cons, noStop_nil, stopIf_none, Bool.or_eq_false_iff, and_true,
    Host.Outcome.next.injEq, eq_comm (b := t)]

theorem exec_wdt_next :
    exec .wdt s = .next t ↔ t = { (s.emit .wdtRefresh).advance 1 with sinceRefresh := 0 } := by
  show execWdt s = .next t ↔ _
  simp only [execWdt, Host.Outcome.next.injEq, eq_comm (b := t)]

end Sys2Proof.Machine
end

section
/-! O9: what a step keeps of a run. -/

namespace Sys2Proof.Machine

/-- From `s` to `t` the run goes on: the device and the script are the same, at most `n` instruction times are counted,
and nothing that was emitted is taken back. -/
structure KeepsRun (n : Nat) (s t : State) : Prop where
  dev : t.dev = s.dev
  script : t.script = s.script
  ended : t.ended = s.ended
  executed_ge : s.executed ≤ t.executed
  executed_le : t.executed ≤ s.executed + n
  emitted : s.emitted <+: t.emitted
  sinceRefresh_le : t.sinceRefresh ≤ s.sinceRefresh + n

variable {s t : State}

theorem SameRest.keepsRun (h : SameRest s t) : KeepsRun 0 s t := by
  obtain ⟨-, -, hdev, hscript, hemitted, hexecuted, hsince, hended⟩ := h
  exact ⟨hdev, hscript, hended, hexecuted.ge, hexecuted.le, hemitted ▸ List.prefix_rfl, hsince.le⟩

theorem LeavesRest.keepsRun (h : LeavesRest s t) : KeepsRun 0 s t := by
  rcases h with h | ⟨a, v, -, h⟩
  · exact h.keepsRun
  · obtain ⟨hdev, hscript, hended, hge, hle, hemitted, hsince⟩ := h.keepsRun
    exact ⟨hdev, hscript, hended, hge, hle, (List.prefix_append _ _).trans hemitted, hsince⟩

theorem KeepsRun.one (h : KeepsRun 0 s t) : KeepsRun 1 s t :=
  { h with executed_le := Nat.le_succ_of_le h.executed_le, sinceRefresh_le := Nat.le_succ_of_le h.sinceRefresh_le }

/-- What keeps the run after the instruction was counted counts one. -/
theorem KeepsRun.of_countInstruction (h : KeepsRun 0 s.countInstruction t) : KeepsRun 1 s t :=
  { h with executed_ge := Nat.le_of_succ_le h.executed_ge }

/-- No instruction counts itself, ends the run, or takes an event back; HALT, STOP and WDT are no exception. -/
theorem exec_keepsRun {i : Instr} (h : exec i s = .next t) : KeepsRun 0 s t := by
  by_cases hh : i = .halt
  · subst hh
    obtain rfl := exec_halt_next.mp h
    constructor <;> simp
  by_cases hs : i = .stop
  · subst hs
    obtain ⟨-, rfl⟩ := exec_stop_next.mp h
    constructor <;> simp
  by_cases hw : i = .wdt
  · subst hw
    obtain rfl := exec_wdt_next.mp h
    constructor <;> simp
  exact (exec_leavesRest hh hs hw h).keepsRun

theorem State.keepsRun_interruptEntry {handler : IrqHandler} (h : s.interruptEntry handler = .next t) :
    KeepsRun 0 s t := by
  obtain ⟨-, h⟩ := State.interruptEntry_next.mp h
  cases handler with
  | fixed a =>
    obtain rfl := h
    exact LeavesRest.keepsRun (by simp)
  | vectored v =>
    obtain ⟨-, -, hi, lo, -, -, rfl⟩ := h
    exact LeavesRest.keepsRun (by simp)

theorem State.keepsRun_takeInterrupt {src : IrqSource} (h : s.takeInterrupt src = .next t) : KeepsRun 0 s t :=
  { State.keepsRun_interruptEntry h with }

theorem State.keepsRun_restart (s : State) : KeepsRun 0 s s.restart := by
  constructor <;> simp

theorem State.keepsRun_setFlags_restart (s : State) (v : Byte) : KeepsRun 0 s (s.setFlags v).restart :=
  { (s.setFlags v).keepsRun_restart with }

theorem State.keepsRun_idle (s : State) : KeepsRun 1 s s.idle := by
  obtain ⟨h, -, hle⟩ := s.idle_eq
  rw [h]
  exact ⟨rfl, rfl, rfl, Nat.le_refl _, Nat.le_succ _, List.prefix_rfl, hle⟩

/-- A step of a run that has not ended reaches the boundary and then either keeps the run going, by at most one
instruction time, or ends it before the fetch at `END_PC`. -/
theorem step_keepsRun (he : s.ended = false) (h : step s = .next t) :
    KeepsRun 1 s.arrive t ∨ (s.mode = .running ∧ s.dev.endPc = some s.pc ∧ t = s.arrive.finish) := by
  rcases step_next h with ⟨he', -⟩ |
    ⟨-, ⟨-, rfl⟩ | ⟨-, -, rfl⟩ | ⟨-, -, rfl⟩ | ⟨src, -, htake⟩ | ⟨-, rfl⟩ | hfinish | ⟨-, i, hexec⟩⟩
  · simp [he] at he'
  · exact .inl (s.arrive.keepsRun_setFlags_restart _).one
  · exact .inl (s.arrive.keepsRun_setFlags_restart _).one
  · exact .inl s.arrive.keepsRun_restart.one
  · exact .inl (State.keepsRun_takeInterrupt htake).one
  · exact .inl s.arrive.keepsRun_idle
  · exact .inr hfinish
  · exact .inl (exec_keepsRun hexec).of_countInstruction

/-- A run that has ended stays as it is. -/
theorem step_of_ended (he : s.ended = true) (h : step s = .next t) : t = s := by
  rcases step_next h with ⟨-, ht⟩ | ⟨he', -⟩
  · exact ht
  · simp [he] at he'

/-- The end of a run shows nothing to the program. -/
theorem State.sameMachine_finish_arrive (s : State) : SameMachine s s.arrive.finish :=
  ⟨s.arrive_reg, s.arrive_progByte, s.arrive_pc, s.arrive_mode, s.arrive_dev, s.arrive_emitted, s.arrive_executed⟩

/-- Settles O9, by the three things a step can do to a run: leave it ended, keep it going, or end it. -/
theorem stepKeepsDevice : Obligations.StepKeepsDevice := by
  intro s t h
  cases he : s.ended with
  | true =>
    obtain rfl := step_of_ended he h
    simp [he]
  | false =>
    rcases step_keepsRun he h with hrun | ⟨hmode, hend, rfl⟩
    · obtain ⟨hdev, hscript, hended, hge, hle, hemitted, hsince⟩ := hrun
      simp only [State.arrive_dev, State.arrive_script, State.arrive_ended, State.arrive_executed,
        State.arrive_emitted, State.arrive_sinceRefresh] at hdev hscript hended hge hle hemitted hsince
      exact ⟨hdev, hge, hle, hemitted, hsince, nofun, fun _ => ⟨hscript, fun ht => by simp [ht, he] at hended⟩⟩
    · obtain ⟨-, -, hpc, hmode', hdev, hemitted, hexecuted⟩ := s.sameMachine_finish_arrive
      have hsince : s.arrive.finish.sinceRefresh ≤ s.sinceRefresh + 1 := s.arrive_sinceRefresh.le.trans (Nat.le_succ _)
      exact ⟨hdev, hexecuted.ge, hexecuted.le.trans (Nat.le_succ _), hemitted ▸ List.prefix_rfl, hsince, nofun,
        fun _ => ⟨s.arrive_script, fun _ => ⟨hpc.symm ▸ hend, hmode'.trans hmode, s.sameMachine_finish_arrive⟩⟩⟩

end Sys2Proof.Machine
end

section
/-! O8: every step keeps the canonical form. -/

namespace Sys2Proof.Machine

variable {s t : State}

theorem State.wf_advance (h : s.wf) (length : Word) : (s.advance length).wf := h

/-- A store to program memory keeps the canonical form when what follows it in the instruction does. -/
theorem State.wf_storeProgByte {a : Word} {v : Byte} {k : State → State} (hw : s.wf) (hk : ∀ u : State, u.wf → (k u).wf)
    (h : s.storeProgByte a v k = .next t) : t.wf := by
  obtain ⟨-, ⟨-, rfl⟩ | ⟨-, rfl⟩⟩ := State.storeProgByte_next.mp h
  · exact hk s hw
  · exact hk _ (State.wf_setProgByte hw a v)

theorem wf_reservedNop {opcode : Byte} (hw : s.wf) (h : reservedNop opcode s = .next t) : t.wf := by
  unfold reservedNop at h
  split at h <;> cases h <;> exact State.wf_advance hw _

/-- A meaning of every shape keeps the canonical form. -/
theorem ExecShape.wf {i : Instr} {m : State → Result} (h : ExecShape i m) (hw : s.wf) (hm : m s = .next t) : t.wf := by
  cases h with
  | load =>
    obtain ⟨-, rfl⟩ := load_next.mp hm
    exact State.wf_advance (State.wf_put hw _ _) _
  | combine =>
    obtain ⟨-, rfl⟩ := combine_next.mp hm
    exact State.wf_advance (State.wf_updateFlags (State.wf_setReg hw _ _) _) _
  | testOperands =>
    obtain ⟨-, rfl⟩ := testOperands_next.mp hm
    exact State.wf_advance (State.wf_updateFlags hw _) _
  | modify =>
    obtain ⟨-, rfl⟩ := modify_next.mp hm
    exact State.wf_advance (State.wf_updateFlags (State.wf_setReg hw _ _) _) _
  | modifyPair =>
    obtain ⟨-, rfl⟩ := modifyPair_next.mp hm
    exact State.wf_advance (State.wf_updateFlags (State.wf_setPair hw _ _) _) _
  | popTo =>
    obtain ⟨-, hm⟩ := guarded_next.mp hm
    cases hm
    exact State.wf_advance (State.wf_setSp (State.wf_put hw _ _) _) _
  | pushFrom =>
    obtain ⟨-, hm⟩ := guarded_next.mp hm
    cases hm
    exact State.wf_advance (State.wf_setReg (State.wf_setSp hw _) _ _) _
  | reservedNop => exact wf_reservedNop hw hm
  | ldc_r_Irr =>
    obtain ⟨-, hm⟩ := guarded_next.mp hm
    obtain ⟨-, v, -, hv⟩ := State.withProgByte_next.mp hm
    cases hv
    exact State.wf_advance (State.wf_put hw _ _) _
  | ldci_Ir_Irr =>
    obtain ⟨-, hm⟩ := guarded_next.mp hm
    obtain ⟨-, v, -, hv⟩ := State.withProgByte_next.mp hm
    cases hv
    exact State.wf_advance (State.wf_setPair (State.wf_setReg (State.wf_put hw _ _) _ _) _ _) _
  | ldc_Irr_r =>
    obtain ⟨-, hm⟩ := guarded_next.mp hm
    exact State.wf_storeProgByte hw (fun u hu => State.wf_advance hu _) hm
  | ldci_Irr_Ir =>
    obtain ⟨-, hm⟩ := guarded_next.mp hm
    exact State.wf_storeProgByte hw
      (fun u hu => State.wf_advance (State.wf_setReg (State.wf_setPair hu _ _) _ _) _) hm
  | call_DA | call_IRR =>
    obtain ⟨-, hm⟩ := guarded_next.mp hm
    cases hm
    exact State.wf_goto (State.wf_pushWord hw _) _
  | djnz_r_RA =>
    obtain ⟨-, hm⟩ := guarded_next.mp hm
    cases hm
    exact State.wf_goto (State.wf_setReg hw _ _) _
  | jp_IRR =>
    obtain ⟨-, hm⟩ := guarded_next.mp hm
    cases hm
    exact State.wf_goto hw _
  | ret =>
    obtain ⟨-, hm⟩ := guarded_next.mp hm
    cases hm
    exact State.wf_goto (State.wf_setSp hw _) _
  | iret =>
    obtain ⟨-, hm⟩ := guarded_next.mp hm
    cases hm
    exact State.wf_interruptReturn hw
  | updateFlags =>
    cases hm
    exact State.wf_advance (State.wf_updateFlags hw _) _
  | setImr =>
    cases hm
    exact State.wf_advance (State.wf_setImr hw _) _
  | srp_IM =>
    cases hm
    exact State.wf_advance (State.wf_setRp hw _) _
  | stop =>
    obtain ⟨-, rfl⟩ := exec_stop_next.mp hm
    exact State.wf_setFlags hw _
  | jumpIf | nop | halt | wdt =>
    cases hm
    exact hw

theorem exec_wf {i : Instr} (hw : s.wf) (h : exec i s = .next t) : t.wf := (exec_shape i).wf hw h

theorem State.wf_idle (hw : s.wf) : s.idle.wf := by
  rw [s.idle_eq.1]
  exact hw

/-- Settles O8, by what a step can do: each thing it does at a boundary keeps the canonical form. -/
theorem stepKeepsWellFormed : Obligations.StepKeepsWellFormed := by
  intro s t hw h
  have ha : s.arrive.wf := State.wf_arrive hw
  rcases step_next h with ⟨-, rfl⟩ |
    ⟨-, ⟨-, rfl⟩ | ⟨-, -, rfl⟩ | ⟨-, -, rfl⟩ | ⟨src, -, htake⟩ | ⟨-, rfl⟩ | ⟨-, -, rfl⟩ | ⟨-, i, hexec⟩⟩
  · exact hw
  · exact State.wf_restart (State.wf_setFlags ha _)
  · exact State.wf_restart (State.wf_setFlags ha _)
  · exact State.wf_restart ha
  · exact State.wf_takeInterrupt ha htake
  · exact State.wf_idle ha
  · exact ha
  · exact exec_wf (s := s.arrive.countInstruction) ha hexec

end Sys2Proof.Machine
end

section
/-! O58: what every instruction leaves alone, HALT, STOP and WDT with it. -/

namespace Sys2Proof.Machine

variable {s t : State}

/-- What leaves the rest alone hands over nothing, or one write of a peripheral register. -/
theorem LeavesRest.emitted (h : LeavesRest s t) :
    t.emitted = s.emitted ∨ ∃ a v, isDevice s.dev a = true ∧ t.emitted = s.emitted ++ [.deviceWrite a v] := by
  rcases h with ⟨-, -, -, -, hemitted, -⟩ | ⟨a, v, ha, -, -, -, -, hemitted, -⟩
  · exact .inl hemitted
  · exact .inr ⟨a, v, ha, hemitted⟩

/-- What leaves the rest alone changes none of the fields but `emitted`. -/
theorem LeavesRest.fields (h : LeavesRest s t) :
    t.mode = s.mode ∧ t.pending = s.pending ∧ t.dev = s.dev ∧ t.script = s.script ∧ t.executed = s.executed ∧
      t.sinceRefresh = s.sinceRefresh ∧ t.ended = s.ended := by
  rcases h with ⟨hm, hp, hd, hs, -, hx, hr, he⟩ | ⟨a, v, -, hm, hp, hd, hs, -, hx, hr, he⟩ <;>
    exact ⟨hm, hp, hd, hs, hx, hr, he⟩

/-- Settles O58: HALT, STOP and WDT by what each does, every other instruction by `exec_leavesRest`. -/
theorem instructionsLeaveTheRest : Obligations.InstructionsLeaveTheRest := by
  intro i s t h
  by_cases hh : i = .halt
  · subst hh
    obtain rfl := exec_halt_next.mp h
    simp
  by_cases hs : i = .stop
  · subst hs
    obtain ⟨-, rfl⟩ := exec_stop_next.mp h
    simp
  by_cases hw : i = .wdt
  · subst hw
    obtain rfl := exec_wdt_next.mp h
    simp
  have hrest := exec_leavesRest hh hs hw h
  obtain ⟨hmode, hpending, hdev, hscript, hexecuted, hsince, hended⟩ := hrest.fields
  refine ⟨hpending, hdev, hscript, hexecuted, hended, ?_, fun _ => hsince, ?_⟩
  · split
    · exact absurd rfl hh
    · exact absurd rfl hs
    · exact hmode
  · exact hrest.emitted.imp_right fun hput => .inr ⟨hw, hput⟩

end Sys2Proof.Machine
end

section
/-! O60: no instruction stores to a peripheral register. Every address that an instruction writes is a control register,
was found ordinary by its guard, or is reached by a plain write. -/

namespace Sys2Proof.Machine

variable {s t : State}

/-- On the same device, every peripheral register's cell is in `t` as it was in `s`. -/
structure KeepsPeripherals (s t : State) : Prop where
  dev : t.dev = s.dev
  reg : ∀ a, isDevice s.dev a = true → t.reg a = s.reg a

theorem KeepsPeripherals.refl (s : State) : KeepsPeripherals s s := ⟨rfl, fun _ _ => rfl⟩

/-- A store to a register that is no peripheral keeps every peripheral's cell. -/
theorem KeepsPeripherals.setReg (h : KeepsPeripherals s t) {d : Byte} (hd : isDevice s.dev d = false) (v : Byte) :
    KeepsPeripherals s (t.setReg d v) where
  dev := h.dev
  reg a ha := by
    have hne : a ≠ d := by
      rintro rfl
      simp [ha] at hd
    rw [State.reg_setReg_other t v hne, h.reg a ha]

theorem KeepsPeripherals.setPair (h : KeepsPeripherals s t) {d : Byte} (hd : isDevice s.dev d = false)
    (hd' : isDevice s.dev (d + 1) = false) (v : Word) : KeepsPeripherals s (t.setPair d v) :=
  (h.setReg hd _).setReg hd' _

/-- A plain write does not store to a peripheral (10_state.md R25). -/
theorem KeepsPeripherals.put (h : KeepsPeripherals s t) (d v : Byte) : KeepsPeripherals s (t.put d v) where
  dev := (t.put_dev d v).trans h.dev
  reg a ha := by
    have hne : ¬(isDevice t.dev d = false ∧ a = d) := by
      rintro ⟨hd, rfl⟩
      simp [h.dev, ha] at hd
    rw [State.reg_put, if_neg hne, h.reg a ha]

theorem KeepsPeripherals.setProgByte (h : KeepsPeripherals s t) (a : Word) (v : Byte) :
    KeepsPeripherals s (t.setProgByte a v) := ⟨h.dev, h.reg⟩

theorem KeepsPeripherals.goto (h : KeepsPeripherals s t) (target : Word) : KeepsPeripherals s (t.goto target) :=
  ⟨h.dev, h.reg⟩

theorem KeepsPeripherals.advance (h : KeepsPeripherals s t) (length : Word) : KeepsPeripherals s (t.advance length) :=
  ⟨h.dev, h.reg⟩

/-! The control registers of a well-formed device are no peripherals (00_scope.md R6). -/

theorem isDevice_flagsAddr_of_wf {d : Device} (h : d.wf) : isDevice d flagsAddr = false :=
  (h.1 flagsAddr (by simp)).2

theorem isDevice_rpAddr_of_wf {d : Device} (h : d.wf) : isDevice d rpAddr = false := (h.1 rpAddr (by simp)).2

theorem isDevice_imrAddr_of_wf {d : Device} (h : d.wf) : isDevice d imrAddr = false := (h.1 imrAddr (by simp)).2

theorem isDevice_spAddr_of_wf {d : Device} (h : d.wf) : isDevice d d.spAddr = false := (h.1 d.spAddr (by simp)).2

section
variable (hdev : s.dev.wf)
include hdev

theorem KeepsPeripherals.setFlags (h : KeepsPeripherals s t) (v : Byte) : KeepsPeripherals s (t.setFlags v) :=
  h.setReg (isDevice_flagsAddr_of_wf hdev) v

theorem KeepsPeripherals.updateFlags (h : KeepsPeripherals s t) (u : FlagUpdate) :
    KeepsPeripherals s (t.updateFlags u) :=
  h.setFlags hdev _

theorem KeepsPeripherals.setRp (h : KeepsPeripherals s t) (v : Byte) : KeepsPeripherals s (t.setRp v) :=
  h.setReg (isDevice_rpAddr_of_wf hdev) v

theorem KeepsPeripherals.setImr (h : KeepsPeripherals s t) (v : Byte) : KeepsPeripherals s (t.setImr v) :=
  h.setReg (isDevice_imrAddr_of_wf hdev) v

theorem KeepsPeripherals.setSp (h : KeepsPeripherals s t) (v : Byte) : KeepsPeripherals s (t.setSp v) :=
  h.setReg (by rw [h.dev]; exact isDevice_spAddr_of_wf hdev) v

theorem State.keepsPeripherals_interruptReturn : KeepsPeripherals s s.interruptReturn := by
  unfold State.interruptReturn
  exact ((((((KeepsPeripherals.refl s).setFlags hdev _).setSp hdev _).setSp hdev _).setImr hdev _).goto _)

/-- Two bytes are pushed only onto ordinary cells. -/
theorem State.keepsPeripherals_pushWord (h : NoStop s.pushWordStops) (v : Word) :
    KeepsPeripherals s (s.pushWord v) := by
  simp only [State.pushWordStops, noStop_cons, noStop_nil, State.stackStop_none, and_true] at h
  obtain ⟨⟨-, -, hhigh⟩, -, -, hlow⟩ := h
  have hnext : s.sp - 2 + 1 = s.sp - 1 := by bv_omega
  exact (((KeepsPeripherals.refl s).setSp hdev _).setReg hhigh _).setReg (hnext ▸ hlow) _

end

/-- A destination that may be rewritten is no peripheral (20_memory.md R69). -/
theorem Loc.isDevice_of_noStop_modify {dst : Loc} (h : NoStop (dst.modifyStops s)) :
    isDevice s.dev (dst.address s) = false := by
  obtain ⟨-, ⟨-, hd⟩, -⟩ := (dst.modifyStops_noStop s).mp h
  exact hd

theorem State.isDevice_of_useStop {a : Byte} (h : s.useStop a = none) : isDevice s.dev a = false :=
  ((s.useStop_none a).mp h).2

/-- Neither half of a pair that may be used is a peripheral. -/
theorem State.isDevice_of_pairStop {a : Byte} (h : s.pairStop a = none) :
    isDevice s.dev a = false ∧ isDevice s.dev (a + 1) = false := by
  obtain ⟨-, ⟨-, h0⟩, -, h1⟩ := (s.pairStop_none a).mp h
  exact ⟨h0, h1⟩

/-- None of LDCI's three pointer registers is a peripheral when it is not refused (45_block_transfer.md R240). -/
theorem isDevice_of_noStop_ldci {r q : Byte} (h : NoStop (ldciStops s r q)) :
    isDevice s.dev r = false ∧ isDevice s.dev q = false ∧ isDevice s.dev (q + 1) = false := by
  simp only [ldciStops, noStop_cons] at h
  obtain ⟨hr, hq, -⟩ := h
  exact ⟨State.isDevice_of_useStop hr, State.isDevice_of_pairStop hq⟩

theorem State.keepsPeripherals_storeProgByte {a : Word} {v : Byte} {k : State → State}
    (hk : ∀ u, KeepsPeripherals s u → KeepsPeripherals s (k u)) (h : s.storeProgByte a v k = .next t) :
    KeepsPeripherals s t := by
  obtain ⟨-, ⟨-, rfl⟩ | ⟨-, rfl⟩⟩ := State.storeProgByte_next.mp h
  · exact hk s (.refl s)
  · exact hk _ ((KeepsPeripherals.refl s).setProgByte a v)

theorem keepsPeripherals_reservedNop {opcode : Byte} (h : reservedNop opcode s = .next t) : KeepsPeripherals s t := by
  unfold reservedNop at h
  split at h <;> cases h <;> exact (KeepsPeripherals.refl s).advance _

/-- A meaning of every shape keeps the peripherals' cells. -/
theorem ExecShape.keepsPeripherals {i : Instr} {m : State → Result} (h : ExecShape i m) (hdev : s.dev.wf)
    (hm : m s = .next t) : KeepsPeripherals s t := by
  have hs := KeepsPeripherals.refl s
  cases h with
  | load =>
    obtain ⟨-, rfl⟩ := load_next.mp hm
    exact (hs.put _ _).advance _
  | combine =>
    obtain ⟨hstops, rfl⟩ := combine_next.mp hm
    have hd := Loc.isDevice_of_noStop_modify ((noStop_append _ _).mp hstops).2
    exact ((hs.setReg hd _).updateFlags hdev _).advance _
  | testOperands =>
    obtain ⟨-, rfl⟩ := testOperands_next.mp hm
    exact (hs.updateFlags hdev _).advance _
  | modify =>
    obtain ⟨hstops, rfl⟩ := modify_next.mp hm
    exact ((hs.setReg (Loc.isDevice_of_noStop_modify hstops) _).updateFlags hdev _).advance _
  | modifyPair f dst =>
    obtain ⟨hstops, rfl⟩ := modifyPair_next.mp hm
    obtain ⟨-, ⟨-, ⟨-, hd⟩, -, hd'⟩, -⟩ := (dst.modifyPairStops_noStop s).mp hstops
    exact ((hs.setPair hd hd' _).updateFlags hdev _).advance _
  | popTo =>
    obtain ⟨-, hm⟩ := guarded_next.mp hm
    cases hm
    exact ((hs.put _ _).setSp hdev _).advance _
  | pushFrom =>
    obtain ⟨hstops, hm⟩ := guarded_next.mp hm
    cases hm
    simp only [noStop_cons, State.stackStop_none] at hstops
    obtain ⟨-, -, -, ⟨-, -, hcell⟩, -⟩ := hstops
    exact ((hs.setSp hdev _).setReg hcell _).advance _
  | reservedNop => exact keepsPeripherals_reservedNop hm
  | ldc_r_Irr =>
    obtain ⟨-, hm⟩ := guarded_next.mp hm
    obtain ⟨-, v, -, hv⟩ := State.withProgByte_next.mp hm
    cases hv
    exact (hs.put _ _).advance _
  | ldci_Ir_Irr =>
    obtain ⟨hstops, hm⟩ := guarded_next.mp hm
    obtain ⟨hr, hq, hq'⟩ := isDevice_of_noStop_ldci hstops
    obtain ⟨-, v, -, hv⟩ := State.withProgByte_next.mp hm
    cases hv
    exact (((hs.put _ _).setReg hr _).setPair hq hq' _).advance _
  | ldc_Irr_r =>
    obtain ⟨-, hm⟩ := guarded_next.mp hm
    exact State.keepsPeripherals_storeProgByte (fun u hu => hu.advance _) hm
  | ldci_Irr_Ir =>
    obtain ⟨hstops, hm⟩ := guarded_next.mp hm
    obtain ⟨hr, hq, hq'⟩ := isDevice_of_noStop_ldci hstops
    exact State.keepsPeripherals_storeProgByte (fun u hu => ((hu.setPair hq hq' _).setReg hr _).advance _) hm
  | call_DA =>
    obtain ⟨hstops, hm⟩ := guarded_next.mp hm
    cases hm
    exact (State.keepsPeripherals_pushWord hdev hstops _).goto _
  | call_IRR =>
    obtain ⟨hstops, hm⟩ := guarded_next.mp hm
    cases hm
    exact (State.keepsPeripherals_pushWord hdev ((noStop_cons _ _).mp hstops).2 _).goto _
  | djnz_r_RA =>
    obtain ⟨hstops, hm⟩ := guarded_next.mp hm
    cases hm
    exact (hs.setReg (State.isDevice_of_useStop ((noStop_cons _ _).mp hstops).1) _).goto _
  | jp_IRR =>
    obtain ⟨-, hm⟩ := guarded_next.mp hm
    cases hm
    exact hs.goto _
  | ret =>
    obtain ⟨-, hm⟩ := guarded_next.mp hm
    cases hm
    exact (hs.setSp hdev _).goto _
  | iret =>
    obtain ⟨-, hm⟩ := guarded_next.mp hm
    cases hm
    exact State.keepsPeripherals_interruptReturn hdev
  | updateFlags =>
    cases hm
    exact (hs.updateFlags hdev _).advance _
  | setImr =>
    cases hm
    exact (hs.setImr hdev _).advance _
  | srp_IM =>
    cases hm
    exact (hs.setRp hdev _).advance _
  | stop =>
    obtain ⟨-, rfl⟩ := exec_stop_next.mp hm
    exact { hs.setFlags hdev _ with }
  | jumpIf | nop | halt | wdt =>
    cases hm
    exact { hs with }

theorem exec_keepsPeripherals {i : Instr} (hdev : s.dev.wf) (h : exec i s = .next t) : KeepsPeripherals s t :=
  (exec_shape i).keepsPeripherals hdev h

/-- Settles O60: the plain read and the plain write by their definitions, the cells by `exec_keepsPeripherals`. -/
theorem peripheralCellsUntouched : Obligations.PeripheralCellsUntouched :=
  ⟨fun _ _ _ => rfl, fun _ _ v ha => State.put_of_device ha v, fun _ _ _ hdev h => (exec_keepsPeripherals hdev h).reg⟩

end Sys2Proof.Machine
end

section
/-! SUPPORT. What the instructions of each group of Sys2Proof/Machine/Forms.lean mean, in all their forms at once. -/

namespace Sys2Proof.Machine

variable (s : State)

/-! ## The two-operand group, writing its destination -/

theorem exec_addInstr (f : TwoForm) : exec (addInstr f) s = combine (addOp false) f.dst f.src f.length s := by
  cases f <;> rfl
theorem exec_adcInstr (f : TwoForm) : exec (adcInstr f) s = combine (addOp (flagC s.flags)) f.dst f.src f.length s := by
  cases f <;> rfl
theorem exec_subInstr (f : TwoForm) : exec (subInstr f) s = combine (subOp false) f.dst f.src f.length s := by
  cases f <;> rfl
theorem exec_sbcInstr (f : TwoForm) : exec (sbcInstr f) s = combine (subOp (flagC s.flags)) f.dst f.src f.length s := by
  cases f <;> rfl
theorem exec_andInstr (f : TwoForm) : exec (andInstr f) s = combine andOp f.dst f.src f.length s := by
  cases f <;> rfl
theorem exec_orInstr (f : TwoForm) : exec (orInstr f) s = combine orOp f.dst f.src f.length s := by
  cases f <;> rfl
theorem exec_xorInstr (f : TwoForm) : exec (xorInstr f) s = combine xorOp f.dst f.src f.length s := by
  cases f <;> rfl

/-- Each of the seven is one operation of the two-operand shape. -/
theorem exec_combineInstr {f : TwoForm} {i : Instr}
    (hi : i ∈ [addInstr f, adcInstr f, subInstr f, sbcInstr f, andInstr f, orInstr f, xorInstr f]) :
    ∃ g, exec i s = combine g f.dst f.src f.length s := by
  simp only [List.mem_cons, List.not_mem_nil, or_false] at hi
  rcases hi with rfl | rfl | rfl | rfl | rfl | rfl | rfl
  · exact ⟨_, exec_addInstr s f⟩
  · exact ⟨_, exec_adcInstr s f⟩
  · exact ⟨_, exec_subInstr s f⟩
  · exact ⟨_, exec_sbcInstr s f⟩
  · exact ⟨_, exec_andInstr s f⟩
  · exact ⟨_, exec_orInstr s f⟩
  · exact ⟨_, exec_xorInstr s f⟩

/-! ## The one-operand group, rewriting its operand -/

theorem exec_decInstr (f : OneForm) : exec (decInstr f) s = modify decOp f.loc 2 s := by cases f <;> rfl
theorem exec_daInstr (f : OneForm) : exec (daInstr f) s = modify (daOp s.dev s.flags) f.loc 2 s := by cases f <;> rfl
theorem exec_comInstr (f : OneForm) : exec (comInstr f) s = modify comOp f.loc 2 s := by cases f <;> rfl
theorem exec_rlInstr (f : OneForm) : exec (rlInstr f) s = modify (rlOp s.dev (flagC s.flags)) f.loc 2 s := by
  cases f <;> rfl
theorem exec_rlcInstr (f : OneForm) : exec (rlcInstr f) s = modify (rlcOp s.dev (flagC s.flags)) f.loc 2 s := by
  cases f <;> rfl
theorem exec_rrInstr (f : OneForm) : exec (rrInstr f) s = modify (rrOp s.dev (flagC s.flags)) f.loc 2 s := by
  cases f <;> rfl
theorem exec_rrcInstr (f : OneForm) : exec (rrcInstr f) s = modify (rrcOp s.dev (flagC s.flags)) f.loc 2 s := by
  cases f <;> rfl
theorem exec_sraInstr (f : OneForm) : exec (sraInstr f) s = modify sraOp f.loc 2 s := by cases f <;> rfl
theorem exec_swapInstr (f : OneForm) : exec (swapInstr f) s = modify swapOp f.loc 2 s := by cases f <;> rfl

/-- Each of the nine is one operation of the one-operand shape. -/
theorem exec_modifyInstr {f : OneForm} {i : Instr}
    (hi : i ∈ [decInstr f, daInstr f, comInstr f, rlInstr f, rlcInstr f, rrInstr f, rrcInstr f, sraInstr f,
      swapInstr f]) : ∃ g, exec i s = modify g f.loc 2 s := by
  simp only [List.mem_cons, List.not_mem_nil, or_false] at hi
  rcases hi with rfl | rfl | rfl | rfl | rfl | rfl | rfl | rfl | rfl
  · exact ⟨_, exec_decInstr s f⟩
  · exact ⟨_, exec_daInstr s f⟩
  · exact ⟨_, exec_comInstr s f⟩
  · exact ⟨_, exec_rlInstr s f⟩
  · exact ⟨_, exec_rlcInstr s f⟩
  · exact ⟨_, exec_rrInstr s f⟩
  · exact ⟨_, exec_rrcInstr s f⟩
  · exact ⟨_, exec_sraInstr s f⟩
  · exact ⟨_, exec_swapInstr s f⟩

theorem exec_incInstr (f : IncForm) : exec (incInstr f) s = modify incOp f.loc f.length s := by cases f <;> rfl

/-! ## INCW and DECW -/

theorem exec_incwInstr (f : OneForm) : exec (incwInstr f) s = modifyPair incwOp f.loc 2 s := by cases f <;> rfl
theorem exec_decwInstr (f : OneForm) : exec (decwInstr f) s = modifyPair decwOp f.loc 2 s := by cases f <;> rfl

theorem exec_modifyPairInstr {f : OneForm} {i : Instr} (hi : i ∈ [incwInstr f, decwInstr f]) :
    ∃ g, exec i s = modifyPair g f.loc 2 s := by
  simp only [List.mem_cons, List.not_mem_nil, or_false] at hi
  rcases hi with rfl | rfl
  · exact ⟨_, exec_incwInstr s f⟩
  · exact ⟨_, exec_decwInstr s f⟩

/-! ## POP and PUSH -/

theorem exec_popInstr (f : OneForm) : exec (popInstr f) s = popTo f.loc s := by cases f <;> rfl
theorem exec_pushInstr (f : OneForm) : exec (pushInstr f) s = pushFrom f.loc s := by cases f <;> rfl

end Sys2Proof.Machine
end

section
/-! O35, O36: where the instructions that rewrite an operand and affect flags stop. -/

namespace Sys2Proof.Machine

variable {s : State}

/-- A meaning that answers a next state exactly when `ok`, and else refuses for one of `reasons`. -/
def StopsUnless (m : Result) (ok : Prop) (reasons : List Refusal) : Prop :=
  ((∃ t, m = .next t) ↔ ok) ∧ ((∃ t, m = .next t) ∨ ∃ r ∈ reasons, m = .refused r)

/-- A guarded next state is answered exactly when nothing stops it, and the reasons are those of the guard. -/
theorem stopsUnless_guarded {stops : List (Option Refusal)} {t : State} {ok : Prop} {reasons : List Refusal}
    (hok : NoStop stops ↔ ok) (hreasons : ∀ r, some r ∈ stops → r ∈ reasons) :
    StopsUnless (guarded stops (.next t)) ok reasons := by
  by_cases hstop : NoStop stops
  · have hgo : guarded stops (.next t) = .next t := guarded_of_noStop hstop _
    exact ⟨⟨fun _ => hok.mp hstop, fun _ => ⟨t, hgo⟩⟩, .inl ⟨t, hgo⟩⟩
  · obtain ⟨r, hr, hrefused⟩ := guarded_of_stop hstop (.next t)
    refine ⟨⟨?_, fun h => absurd (hok.mpr h) hstop⟩, .inr ⟨r, hreasons r hr, hrefused⟩⟩
    rintro ⟨u, hu⟩
    exact absurd (guarded_next.mp hu).1 hstop

theorem flagsStop_some {d : Byte} {r : Refusal} (h : flagsStop d = some r) : r = .flagsDestination := stopIf_some h

theorem Loc.modifyStops_some {dst : Loc} {r : Refusal} (h : some r ∈ dst.modifyStops s) :
    r ∈ [Refusal.absentRegister, .deviceRegister, .flagsDestination] := by
  simp only [Loc.modifyStops, List.mem_cons, List.not_mem_nil, or_false] at h
  rcases h with h | h | h
  · rcases Loc.pointerStop_some h.symm with rfl | rfl <;> simp
  · rcases State.useStop_some h.symm with rfl | rfl <;> simp
  · obtain rfl := flagsStop_some h.symm
    simp

theorem Loc.modifyPairStops_some {dst : Loc} {r : Refusal} (h : some r ∈ dst.modifyPairStops s) :
    r ∈ [Refusal.oddPair, .absentRegister, .deviceRegister, .flagsDestination] := by
  simp only [Loc.modifyPairStops, List.mem_cons, List.not_mem_nil, or_false] at h
  rcases h with h | h | h | h
  · rcases Loc.pointerStop_some h.symm with rfl | rfl <;> simp
  · rcases State.pairStop_some h.symm with rfl | rfl | rfl <;> simp
  · obtain rfl := flagsStop_some h.symm
    simp
  · obtain rfl := flagsStop_some h.symm
    simp

theorem stopsUnless_combine (f : Byte → Byte → Byte × FlagUpdate) (dst : Loc) (src : Src) (length : Word) :
    StopsUnless (combine f dst src length s) (src.readable s ∧ dst.rewritable s)
      [.absentRegister, .deviceRegister, .flagsDestination] := by
  refine stopsUnless_guarded ?_ fun r hr => ?_
  · rw [noStop_append, Src.stops_noStop, Loc.modifyStops_noStop]
  · rcases List.mem_append.mp hr with hr | hr
    · rcases Src.stops_some hr with rfl | rfl <;> simp
    · exact Loc.modifyStops_some hr

theorem stopsUnless_modify (f : Byte → Byte × FlagUpdate) (dst : Loc) (length : Word) :
    StopsUnless (modify f dst length s) (dst.rewritable s) [.absentRegister, .deviceRegister, .flagsDestination] :=
  stopsUnless_guarded (dst.modifyStops_noStop s) fun _ => Loc.modifyStops_some

theorem stopsUnless_modifyPair (f : Word → Word × FlagUpdate) (dst : Loc) (length : Word) :
    StopsUnless (modifyPair f dst length s)
      (dst.pointerOk s ∧ s.pairOk (dst.address s) ∧ dst.address s ≠ flagsAddr)
      [.oddPair, .absentRegister, .deviceRegister, .flagsDestination] :=
  stopsUnless_guarded (dst.modifyPairStops_noStop s) fun _ => Loc.modifyPairStops_some

/-- Settles O35, from what stops each of the three shapes. -/
theorem rewritingRunsExactlyWhen : Obligations.RewritingRunsExactlyWhen := by
  refine ⟨fun f s i hi => ?_, fun f s i hi => ?_, fun f s => ?_, fun f s i hi => ?_⟩
  · obtain ⟨g, hg⟩ := exec_combineInstr s hi
    simp only [Refuses, hg]
    exact stopsUnless_combine g f.dst f.src f.length
  · obtain ⟨g, hg⟩ := exec_modifyInstr s hi
    simp only [Refuses, hg]
    exact stopsUnless_modify g f.loc 2
  · simp only [Refuses, exec_incInstr]
    exact stopsUnless_modify incOp f.loc f.length
  · obtain ⟨g, hg⟩ := exec_modifyPairInstr s hi
    simp only [Refuses, hg]
    exact stopsUnless_modifyPair g f.loc 2

/-! ## FLAGS as the destination -/

/-- With FLAGS an ordinary register and the pointer in order, FLAGS as the destination is what stops a rewriting. -/
theorem Loc.guarded_modifyStops_flags {dst : Loc} (hp : dst.pointerOk s) (ho : s.ordinary flagsAddr)
    (hd : dst.address s = flagsAddr) (k : Result) : guarded (dst.modifyStops s) k = .refused .flagsDestination := by
  have hpointer : dst.pointerStop s = none := (dst.pointerStop_none s).mpr hp
  have huse : s.useStop flagsAddr = none := (s.useStop_none _).mpr ho
  simp only [Loc.modifyStops, hd, hpointer, huse, flagsStop_flags, guarded_none, guarded_some]

theorem combine_flags {f : Byte → Byte → Byte × FlagUpdate} {dst : Loc} {src : Src} {length : Word}
    (hs : src.readable s) (hp : dst.pointerOk s) (ho : s.ordinary flagsAddr) (hd : dst.address s = flagsAddr) :
    combine f dst src length s = .refused .flagsDestination :=
  (guarded_append_noStop ((src.stops_noStop s).mpr hs) _ _).trans (Loc.guarded_modifyStops_flags hp ho hd _)

theorem modify_flags {f : Byte → Byte × FlagUpdate} {dst : Loc} {length : Word} (hp : dst.pointerOk s)
    (ho : s.ordinary flagsAddr) (hd : dst.address s = flagsAddr) :
    modify f dst length s = .refused .flagsDestination := Loc.guarded_modifyStops_flags hp ho hd _

theorem modifyPair_flags {f : Word → Word × FlagUpdate} {dst : Loc} {length : Word} (hp : dst.pointerOk s)
    (ho : s.pairOk flagsAddr) (hd : dst.address s = flagsAddr) :
    modifyPair f dst length s = .refused .flagsDestination := by
  have hpointer : dst.pointerStop s = none := (dst.pointerStop_none s).mpr hp
  have hpair : s.pairStop flagsAddr = none := (s.pairStop_none _).mpr ho
  simp only [modifyPair, Loc.modifyPairStops, hd, hpointer, hpair, flagsStop_flags, guarded_none, guarded_some]

/-- Settles O36: of each shape's reasons to stop, the one for FLAGS is the first that is present. -/
theorem flagsDestinationRefused : Obligations.FlagsDestinationRefused := by
  refine ⟨fun f s hs hp ho hd i hi => ?_, fun f s hp ho hd i hi => ?_, fun f s hp ho hd => ?_,
    fun f s hp ho hd i hi => ?_⟩
  · obtain ⟨g, hg⟩ := exec_combineInstr s hi
    exact hg.trans (combine_flags hs hp ho hd)
  · obtain ⟨g, hg⟩ := exec_modifyInstr s hi
    exact hg.trans (modify_flags hp ho hd)
  · exact (exec_incInstr s f).trans (modify_flags hp ho hd)
  · obtain ⟨g, hg⟩ := exec_modifyPairInstr s hi
    exact hg.trans (modifyPair_flags hp ho hd)

end Sys2Proof.Machine
end

section
/-! O37: where an odd pair is refused. -/

namespace Sys2Proof.Machine

variable {s : State}

/-! ## What a refusal comes from -/

/-- A guarded meaning refuses for a reason of the guard or for one of its own. -/
theorem guarded_refused {stops : List (Option Refusal)} {k : Result} {r : Refusal} (h : guarded stops k = .refused r) :
    some r ∈ stops ∨ k = .refused r := by
  induction stops with
  | nil => exact .inr h
  | cons c stops ih =>
    cases c with
    | none => exact (ih h).imp_left (List.mem_cons_of_mem _)
    | some r' =>
      cases h
      exact .inl List.mem_cons_self

/-- A guarded next state refuses for a reason of the guard. -/
theorem guarded_next_refused {stops : List (Option Refusal)} {t : State} {r : Refusal}
    (h : guarded stops (.next t) = .refused r) : some r ∈ stops :=
  (guarded_refused h).resolve_right nofun

theorem State.progStop_some {a : Word} {r : Refusal} (h : s.progStop a = some r) : r = .absentProgram := stopIf_some h

/-- A program read refuses an absent address, and otherwise as what is done with the byte. -/
theorem State.withProgByte_refused {a : Word} {k : Byte → Result} {r : Refusal}
    (h : s.withProgByte a k = .refused r) : r = .absentProgram ∨ ∃ v, k v = .refused r := by
  rcases guarded_refused h with hr | hk
  · exact .inl (State.progStop_some (List.mem_singleton.mp hr).symm)
  · split at hk
    · exact .inr ⟨_, hk⟩
    · cases hk

theorem State.storeProgByte_refused {a : Word} {v : Byte} {k : State → State} {r : Refusal}
    (h : s.storeProgByte a v k = .refused r) : r = .absentProgram ∨ r = .programStore := by
  rcases guarded_refused h with hr | hk
  · exact .inl (State.progStop_some (List.mem_singleton.mp hr).symm)
  · split at hk <;> cases hk
    exact .inr rfl

/-! ## The operands that name a pair -/

theorem joinNibbles_getLsbD_zero (hi lo : Nibble) : (joinNibbles hi lo).getLsbD 0 = lo.getLsbD 0 :=
  BitVec.getLsbD_append

/-- A working register's address is even exactly when its number is (10_state.md R22). -/
theorem State.wr_getLsbD_zero (s : State) (n : Nibble) : (s.wr n).getLsbD 0 = n.getLsbD 0 :=
  joinNibbles_getLsbD_zero _ n

/-- The E escape keeps bit 0 (30_encoding.md R96). -/
theorem State.reg8_getLsbD_zero (s : State) (b : Byte) : (s.reg8 b).getLsbD 0 = b.getLsbD 0 := by
  unfold State.reg8
  split
  · rw [State.wr_getLsbD_zero]
    simp [loNibble]
  · rfl

theorem pairNibble_eq_ite (order : NibbleOrder) (hi lo : Nibble) :
    pairNibble order hi lo = if order = .dstSrc then hi else lo := by cases order <;> rfl

theorem sourceNibble_eq_ite (order : NibbleOrder) (hi lo : Nibble) :
    sourceNibble order hi lo = if order = .dstSrc then lo else hi := by cases order <;> rfl

theorem not_odd_of_evenPair {p : Nibble} (h : evenPair p = true) : p.getLsbD 0 ≠ true := by simpa [evenPair] using h

theorem not_odd_of_evenByte {b : Byte} (h : evenByte b = true) : b.getLsbD 0 ≠ true := by simpa [evenByte] using h

/-! ## Which guard gives the odd pair as its reason -/

@[simp] theorem oddPair_eq_stopIf_iff {b : Bool} {r : Refusal} :
    some .oddPair = stopIf b r ↔ b = true ∧ r = .oddPair := by
  cases b <;> simp [stopIf, eq_comm]

@[simp] theorem oddPair_ne_flagsStop (d : Byte) : some .oddPair ≠ flagsStop d := by simp [flagsStop]

@[simp] theorem State.oddPair_ne_accessStop (s : State) (a : Byte) : some .oddPair ≠ s.accessStop a := by
  simp [State.accessStop]

@[simp] theorem State.oddPair_ne_useStop (s : State) (a : Byte) : some .oddPair ≠ s.useStop a := by
  intro h
  rcases State.useStop_some h.symm with h | h <;> cases h

@[simp] theorem State.oddPair_ne_stackStop (s : State) (a : Byte) : some .oddPair ≠ s.stackStop a := by
  intro h
  rcases State.stackStop_some h.symm with h | h | h <;> cases h

@[simp] theorem Loc.oddPair_ne_pointerStop (l : Loc) (s : State) : some .oddPair ≠ l.pointerStop s := by
  intro h
  rcases Loc.pointerStop_some h.symm with h | h <;> cases h

/-- Of all guards only that of a pair answers an odd pair, and exactly at an odd address (10_state.md R23). -/
theorem State.oddPair_eq_pairStop_iff (s : State) (a : Byte) : some .oddPair = s.pairStop a ↔ a.getLsbD 0 = true := by
  unfold State.pairStop
  cases hodd : a.getLsbD 0 with
  | true => simp
  | false =>
    cases h0 : s.useStop a with
    | none => simp
    | some r =>
      have hr : some .oddPair ≠ some r := h0 ▸ s.oddPair_ne_useStop a
      simpa using hr

/-- The pair that a working-register number names. -/
@[simp] theorem State.oddPair_eq_pairStop_wr (s : State) (p : Nibble) :
    some .oddPair = s.pairStop (s.wr p) ↔ p.getLsbD 0 = true := by
  rw [s.oddPair_eq_pairStop_iff, s.wr_getLsbD_zero]

/-- The pair that an operand byte names. -/
@[simp] theorem State.oddPair_eq_pairStop_reg8 (s : State) (b : Byte) :
    some .oddPair = s.pairStop (s.reg8 b) ↔ b.getLsbD 0 = true := by
  rw [s.oddPair_eq_pairStop_iff, s.reg8_getLsbD_zero]

/-! ## An instruction with a pair refuses an odd one only where it is odd -/

theorem odd_of_modifyPair {f : Word → Word × FlagUpdate} {dst : Loc} {length : Word}
    (h : modifyPair f dst length s = .refused .oddPair) : (dst.address s).getLsbD 0 = true := by
  have hmem := guarded_next_refused h
  simpa [Loc.modifyPairStops, s.oddPair_eq_pairStop_iff] using hmem

theorem modifyPair_of_odd {f : Word → Word × FlagUpdate} {dst : Loc} {length : Word} (hp : dst.pointerOk s)
    (ho : (dst.address s).getLsbD 0 = true) : modifyPair f dst length s = .refused .oddPair := by
  have hpointer : dst.pointerStop s = none := (dst.pointerStop_none s).mpr hp
  have hpair : s.pairStop (dst.address s) = some .oddPair := ((s.oddPair_eq_pairStop_iff _).mpr ho).symm
  simp only [modifyPair, Loc.modifyPairStops, hpointer, hpair, guarded_none, guarded_some]

theorem odd_of_jp_IRR {b : Byte} (h : execJp_IRR b s = .refused .oddPair) : b.getLsbD 0 = true := by
  have hmem := guarded_next_refused h
  simpa using hmem

theorem odd_of_call_IRR {b : Byte} (h : execCall_IRR b s = .refused .oddPair) : b.getLsbD 0 = true := by
  have hmem := guarded_next_refused h
  simpa [State.pushWordStops] using hmem

theorem odd_of_ldc_r_Irr {n p : Nibble} (h : execLdc_r_Irr n p s = .refused .oddPair) : p.getLsbD 0 = true := by
  rcases guarded_refused h with hmem | hread
  · simpa using hmem
  · rcases State.withProgByte_refused hread with h | ⟨v, h⟩ <;> cases h

theorem odd_of_ldci_Ir_Irr {n p : Nibble} (h : execLdci_Ir_Irr n p s = .refused .oddPair) : p.getLsbD 0 = true := by
  rcases guarded_refused h with hmem | hread
  · simpa [ldciStops] using hmem
  · rcases State.withProgByte_refused hread with h | ⟨v, h⟩ <;> cases h

theorem odd_of_ldc_Irr_r {hi lo : Nibble} (h : execLdc_Irr_r hi lo s = .refused .oddPair) :
    (pairNibble s.dev.ldcNibbles hi lo).getLsbD 0 = true := by
  rcases guarded_refused h with hmem | hstore
  · simpa using hmem
  · rcases State.storeProgByte_refused hstore with h | h <;> cases h

theorem odd_of_ldci_Irr_Ir {hi lo : Nibble} (h : execLdci_Irr_Ir hi lo s = .refused .oddPair) :
    (pairNibble s.dev.ldcNibbles hi lo).getLsbD 0 = true := by
  rcases guarded_refused h with hmem | hstore
  · simpa [ldciStops] using hmem
  · rcases State.storeProgByte_refused hstore with h | h <;> cases h

/-! ## The shapes without a pair -/

theorem Src.oddPair_not_mem_stops (src : Src) (s : State) : some .oddPair ∉ src.stops s := by
  intro h
  rcases Src.stops_some h with h | h <;> cases h

theorem Loc.oddPair_not_mem_modifyStops (dst : Loc) (s : State) : some .oddPair ∉ dst.modifyStops s := by
  simp [Loc.modifyStops]

/-- The guard of a load and of a test. -/
theorem oddPair_not_mem_accessStops (dst : Loc) (src : Src) (s : State) :
    some .oddPair ∉ src.stops s ++ [dst.pointerStop s, s.accessStop (dst.address s)] := by
  simp [src.oddPair_not_mem_stops s]

theorem load_ne_oddPair (dst : Loc) (src : Src) (length : Word) (s : State) :
    load dst src length s ≠ .refused .oddPair :=
  fun h => oddPair_not_mem_accessStops dst src s (guarded_next_refused h)

theorem testOperands_ne_oddPair (f : Byte → Byte → FlagUpdate) (dst : Loc) (src : Src) (length : Word) (s : State) :
    testOperands f dst src length s ≠ .refused .oddPair :=
  fun h => oddPair_not_mem_accessStops dst src s (guarded_next_refused h)

theorem combine_ne_oddPair (f : Byte → Byte → Byte × FlagUpdate) (dst : Loc) (src : Src) (length : Word) (s : State) :
    combine f dst src length s ≠ .refused .oddPair := by
  intro h
  rcases List.mem_append.mp (guarded_next_refused h) with h | h
  · exact src.oddPair_not_mem_stops s h
  · exact dst.oddPair_not_mem_modifyStops s h

theorem modify_ne_oddPair (f : Byte → Byte × FlagUpdate) (dst : Loc) (length : Word) (s : State) :
    modify f dst length s ≠ .refused .oddPair :=
  fun h => dst.oddPair_not_mem_modifyStops s (guarded_next_refused h)

theorem popTo_ne_oddPair (dst : Loc) (s : State) : popTo dst s ≠ .refused .oddPair := by
  intro h
  simpa using guarded_next_refused h

theorem pushFrom_ne_oddPair (src : Loc) (s : State) : pushFrom src s ≠ .refused .oddPair := by
  intro h
  simpa using guarded_next_refused h

theorem reservedNop_ne_oddPair (opcode : Byte) (s : State) : reservedNop opcode s ≠ .refused .oddPair := by
  unfold reservedNop
  split <;> nofun

/-- A guard of stack cells alone. -/
theorem guarded_stackStops_ne_oddPair (cells : List Byte) (s t : State) :
    guarded (cells.map s.stackStop) (.next t) ≠ .refused .oddPair := by
  intro h
  obtain ⟨a, -, ha⟩ := List.mem_map.mp (guarded_next_refused h)
  exact s.oddPair_ne_stackStop a ha.symm

theorem djnz_ne_oddPair (n : Nibble) (offset : Byte) (s : State) : execDjnz_r_RA n offset s ≠ .refused .oddPair := by
  intro h
  simpa using guarded_next_refused h

theorem stop_ne_oddPair (s : State) : execStop s ≠ .refused .oddPair := by
  intro h
  simpa using guarded_next_refused h

/-- With even pair operands an odd pair is met only through the pointer of DECW or INCW: the other instructions with a
pair have it as an operand, and every other shape has none. -/
theorem odd_pointer_of_oddPair {i : Instr} (hw : i.wellFormed s.dev.ldcNibbles = true)
    (h : exec i s = .refused .oddPair) :
    ∃ b, (i = .decw_IR b ∨ i = .incw_IR b) ∧ (s.reg (s.reg8 b)).getLsbD 0 = true := by
  cases i with
  | decw_IR b => exact ⟨b, .inl rfl, odd_of_modifyPair h⟩
  | incw_IR b => exact ⟨b, .inr rfl, odd_of_modifyPair h⟩
  | decw_RR b | incw_RR b =>
    exact absurd ((s.reg8_getLsbD_zero b).symm.trans (odd_of_modifyPair h)) (not_odd_of_evenByte hw)
  | jp_IRR b => exact absurd (odd_of_jp_IRR h) (not_odd_of_evenByte hw)
  | call_IRR b => exact absurd (odd_of_call_IRR h) (not_odd_of_evenByte hw)
  | ldc_r_Irr n p => exact absurd (odd_of_ldc_r_Irr h) (not_odd_of_evenPair hw)
  | ldci_Ir_Irr n p => exact absurd (odd_of_ldci_Ir_Irr h) (not_odd_of_evenPair hw)
  | ldc_Irr_r hi lo => exact absurd (odd_of_ldc_Irr_r h) (not_odd_of_evenPair hw)
  | ldci_Irr_Ir hi lo => exact absurd (odd_of_ldci_Irr_Ir h) (not_odd_of_evenPair hw)
  | add_r_r | add_r_Ir | add_R_R | add_R_IR | add_R_IM | add_IR_IM
  | adc_r_r | adc_r_Ir | adc_R_R | adc_R_IR | adc_R_IM | adc_IR_IM
  | sub_r_r | sub_r_Ir | sub_R_R | sub_R_IR | sub_R_IM | sub_IR_IM
  | sbc_r_r | sbc_r_Ir | sbc_R_R | sbc_R_IR | sbc_R_IM | sbc_IR_IM
  | and_r_r | and_r_Ir | and_R_R | and_R_IR | and_R_IM | and_IR_IM
  | or_r_r | or_r_Ir | or_R_R | or_R_IR | or_R_IM | or_IR_IM
  | xor_r_r | xor_r_Ir | xor_R_R | xor_R_IR | xor_R_IM | xor_IR_IM => exact absurd h (combine_ne_oddPair _ _ _ _ s)
  | cp_r_r | cp_r_Ir | cp_R_R | cp_R_IR | cp_R_IM | cp_IR_IM
  | tcm_r_r | tcm_r_Ir | tcm_R_R | tcm_R_IR | tcm_R_IM | tcm_IR_IM
  | tm_r_r | tm_r_Ir | tm_R_R | tm_R_IR | tm_R_IM | tm_IR_IM => exact absurd h (testOperands_ne_oddPair _ _ _ _ s)
  | dec_R | dec_IR | inc_r | inc_R | inc_IR | da_R | da_IR | com_R | com_IR | swap_R | swap_IR
  | rl_R | rl_IR | rlc_R | rlc_IR | rr_R | rr_IR | rrc_R | rrc_IR | sra_R | sra_IR =>
    exact absurd h (modify_ne_oddPair _ _ _ s)
  | clr_R | clr_IR | ld_r_IM | ld_r_R | ld_R_r | ld_r_X | ld_X_r | ld_r_Ir | ld_Ir_r
  | ld_R_R | ld_R_IR | ld_R_IM | ld_IR_IM | ld_IR_R => exact absurd h (load_ne_oddPair _ _ _ s)
  | pop_R | pop_IR => exact absurd h (popTo_ne_oddPair _ s)
  | push_R | push_IR => exact absurd h (pushFrom_ne_oddPair _ s)
  | call_DA => exact absurd h (guarded_stackStops_ne_oddPair [s.sp - 2, s.sp - 1] s _)
  | ret => exact absurd h (guarded_stackStops_ne_oddPair [s.sp, s.sp + 1] s _)
  | iret => exact absurd h (guarded_stackStops_ne_oddPair [s.sp, s.sp + 1, s.sp + 2] s _)
  | djnz_r_RA n offset => exact absurd h (djnz_ne_oddPair n offset s)
  | stop => exact absurd h (stop_ne_oddPair s)
  | jp_cc_DA | jr_cc_RA | ccf | rcf | scf | di | ei | srp_IM | nop | halt | wdt => cases h
  | reserved_0F | reserved_1F | reserved_2F | reserved_3F | reserved_4F
  | reserved_82 | reserved_83 | reserved_84 | reserved_85 | reserved_86 | reserved_87
  | reserved_92 | reserved_93 | reserved_94 | reserved_95 | reserved_96 | reserved_97
  | reserved_C4 | reserved_C5 | reserved_C6 | reserved_D5 | reserved_E2
  | reserved_F2 | reserved_F4 | reserved_F6 | reserved_F7 => exact absurd h (reservedNop_ne_oddPair _ s)

/-! ## An odd pair operand is refused -/

/-- A guard whose first reason is the odd pair, as LDC's, JP's and CALL's are. -/
theorem guarded_pairStop_wr_of_odd {p : Nibble} (h : p.getLsbD 0 = true) (stops : List (Option Refusal)) (k : Result) :
    guarded (s.pairStop (s.wr p) :: stops) k = .refused .oddPair := by
  rw [← (s.oddPair_eq_pairStop_wr p).mpr h, guarded_some]

theorem guarded_pairStop_reg8_of_odd {b : Byte} (h : b.getLsbD 0 = true) (stops : List (Option Refusal)) (k : Result) :
    guarded (s.pairStop (s.reg8 b) :: stops) k = .refused .oddPair := by
  rw [← (s.oddPair_eq_pairStop_reg8 b).mpr h, guarded_some]

theorem guarded_ldciStops_of_odd {r : Byte} {p : Nibble} (hr : s.ordinary r) (hp : p.getLsbD 0 = true) (k : Result) :
    guarded (ldciStops s r (s.wr p)) k = .refused .oddPair := by
  rw [ldciStops, (s.useStop_none r).mpr hr, guarded_none]
  exact guarded_pairStop_wr_of_odd hp _ k

/-- Settles O37: the converse by `odd_pointer_of_oddPair`, the refusals by the first reason each guard finds. -/
theorem wellFormedNeverOddPair : Obligations.WellFormedNeverOddPair := by
  refine ⟨fun i s hw h => odd_pointer_of_oddPair hw h, fun b s hb i hi => ?_, fun b s ho hodd i hi => ?_,
    fun n p s hp => ⟨guarded_pairStop_wr_of_odd hp _ _, fun hn => guarded_ldciStops_of_odd hn hp _⟩, fun hi lo s => ?_⟩
  · have hodd : ((Loc.R b).address s).getLsbD 0 = true := (s.reg8_getLsbD_zero b).trans hb
    simp only [List.mem_cons, List.not_mem_nil, or_false] at hi
    rcases hi with rfl | rfl | rfl | rfl
    · exact modifyPair_of_odd trivial hodd
    · exact modifyPair_of_odd trivial hodd
    · exact guarded_pairStop_reg8_of_odd hb _ _
    · exact guarded_pairStop_reg8_of_odd hb _ _
  · simp only [List.mem_cons, List.not_mem_nil, or_false] at hi
    rcases hi with rfl | rfl
    · exact modifyPair_of_odd (dst := .IR b) ho hodd
    · exact modifyPair_of_odd (dst := .IR b) ho hodd
  · simp only [← pairNibble_eq_ite _ hi lo, ← sourceNibble_eq_ite _ hi lo]
    exact fun hp => ⟨guarded_pairStop_wr_of_odd hp _ _, fun hn => guarded_ldciStops_of_odd hn hp _⟩

end Sys2Proof.Machine
end

section
/-! O46: the stack accesses on the SP register and the overlapping LDCI. -/

namespace Sys2Proof.Machine

variable {s : State}

/-! ## Stack cells -/

theorem State.stackStop_spAddr {a : Byte} (h : a = s.dev.spAddr) : s.stackStop a = some .stackOnSp := if_pos h

/-- Of these stack cells, one is the SP register and those before it are ordinary. -/
def State.meetsSp (s : State) : List Byte → Prop
  | [] => False
  | a :: cells => a = s.dev.spAddr ∨ s.ordinary a ∧ s.meetsSp cells

/-- The guard of a stack access on the SP register answers that reason (10_state.md R43). -/
theorem guarded_stackStops_of_meetsSp {cells : List Byte} (h : s.meetsSp cells) (k : Result) :
    guarded (cells.map s.stackStop) k = .refused .stackOnSp := by
  induction cells with
  | nil => exact h.elim
  | cons a cells ih =>
    by_cases ha : a = s.dev.spAddr
    · rw [List.map_cons, State.stackStop_spAddr ha, guarded_some]
    · obtain ⟨hord, hcells⟩ := h.resolve_left ha
      have hnone : s.stackStop a = none := (s.stackStop_none a).mpr ⟨ha, hord⟩
      rw [List.map_cons, hnone, guarded_none]
      exact ih hcells

theorem State.meetsSp_pair (s : State) (a b : Byte) :
    s.meetsSp [a, b] ↔ a = s.dev.spAddr ∨ s.ordinary a ∧ b = s.dev.spAddr := by simp [State.meetsSp]

theorem State.meetsSp_triple (s : State) (a b c : Byte) :
    s.meetsSp [a, b, c] ↔ a = s.dev.spAddr ∨ s.ordinary a ∧ b = s.dev.spAddr ∨
      s.ordinary a ∧ s.ordinary b ∧ c = s.dev.spAddr := by
  simp only [State.meetsSp, and_false, or_false, and_or_left]

theorem popTo_stackOnSp {dst : Loc} (h : s.sp = s.dev.spAddr) : popTo dst s = .refused .stackOnSp := by
  have hstop : s.stackStop s.sp = some .stackOnSp := State.stackStop_spAddr h
  simp only [popTo, hstop, guarded_some]

theorem pushFrom_stackOnSp {src : Loc} (ha : src.accessible s) (hne : src.address s ≠ s.dev.spAddr)
    (h : s.sp - 1 = s.dev.spAddr) : pushFrom src s = .refused .stackOnSp := by
  have hpointer : src.pointerStop s = none := (src.pointerStop_none s).mpr ha.1
  have haccess : s.accessStop (src.address s) = none := (s.accessStop_none _).mpr ha.2
  have hoperand : stopIf (src.address s == s.dev.spAddr) .spOperand = none := by simp [hne]
  have hstack : s.stackStop (s.sp - 1) = some .stackOnSp := State.stackStop_spAddr h
  simp only [pushFrom, hpointer, haccess, hoperand, hstack, guarded_none, guarded_some]

/-- Both forms of CALL push the return address onto the same two cells. -/
theorem guarded_pushWordStops_of_meetsSp (h : s.meetsSp [s.sp - 2, s.sp - 1]) (k : Result) :
    guarded s.pushWordStops k = .refused .stackOnSp := guarded_stackStops_of_meetsSp h k

theorem State.interruptEntry_stackOnSp (h : s.meetsSp [s.sp - 2, s.sp - 1, s.sp - 3]) (handler : IrqHandler) :
    s.interruptEntry handler = .refused .stackOnSp := guarded_stackStops_of_meetsSp h _

/-! ## LDCI -/

/-- The guard of LDCI answers an overlap when its pointers and the cell may be used (45_block_transfer.md R240). -/
theorem guarded_ldciStops_of_overlap {r q : Byte} (hr : s.ordinary r) (hq : s.pairOk q)
    (hcell : hasRegister s.dev (s.reg r) = true) (h : s.reg r ∈ [r, q, q + 1] ∨ r ∈ [q, q + 1]) (k : Result) :
    guarded (ldciStops s r q) k = .refused .ldciOverlap := by
  have hoverlap : (s.reg r == r || s.reg r == q || s.reg r == q + 1 || r == q || r == q + 1) = true := by
    simpa [or_assoc] using h
  simp only [ldciStops, (s.useStop_none r).mpr hr, (s.pairStop_none q).mpr hq, (s.accessStop_none _).mpr hcell,
    hoverlap, stopIf, if_true, guarded_none, guarded_some]

/-- Settles O46: each guard's first reason that is present is the overlap. -/
theorem overlapsRefused : Obligations.OverlapsRefused := by
  refine ⟨fun f s h => ?_, fun f s ha hne h => ?_, fun target s h => ?_, fun b s hb h => ?_, fun s h => ?_,
    fun s h => ?_, fun s handler h => ?_, fun n p s hr hq hcell h => guarded_ldciStops_of_overlap hr hq hcell h _,
    fun hi lo s => ?_⟩
  · exact (exec_popInstr s f).trans (popTo_stackOnSp h)
  · exact (exec_pushInstr s f).trans (pushFrom_stackOnSp ha hne h)
  · exact guarded_pushWordStops_of_meetsSp ((s.meetsSp_pair _ _).mpr h) _
  · have hpair : s.pairStop (s.reg8 b) = none := (s.pairStop_none _).mpr hb
    show guarded (s.pairStop (s.reg8 b) :: s.pushWordStops) _ = _
    rw [hpair, guarded_none]
    exact guarded_pushWordStops_of_meetsSp ((s.meetsSp_pair _ _).mpr h) _
  · exact guarded_stackStops_of_meetsSp ((s.meetsSp_pair _ _).mpr h) _
  · exact guarded_stackStops_of_meetsSp ((s.meetsSp_triple _ _ _).mpr h) _
  · exact State.interruptEntry_stackOnSp ((s.meetsSp_triple _ _ _).mpr h) handler
  · simp only [← pairNibble_eq_ite _ hi lo, ← sourceNibble_eq_ite _ hi lo]
    exact fun hr hq hcell h => guarded_ldciStops_of_overlap hr hq hcell h _

end Sys2Proof.Machine
end

section
/-! O5, O7: where registers and flags are, and the state after reset. -/

namespace Sys2Proof.Machine

/-- The E escape of 30_encoding.md R96 as a mask. -/
theorem hiNibble_eq_escape_iff (b : Byte) : hiNibble b = 0xE#4 ↔ b &&& 0xF0#8 = 0xE0#8 := by
  revert b; decide

theorem joinNibbles_eq_or (hi lo : Nibble) : joinNibbles hi lo = joinNibbles hi 0 ||| lo.setWidth 8 := by
  revert hi lo; decide

theorem joinNibbles_hiNibble_zero (b : Byte) : joinNibbles (hiNibble b) 0 = b &&& 0xF0#8 := by
  revert b; decide

/-- `b[7:4] : n`, by a mask. -/
theorem joinNibbles_hiNibble (b : Byte) (n : Nibble) :
    joinNibbles (hiNibble b) n = (b &&& 0xF0#8) ||| n.setWidth 8 := by
  rw [joinNibbles_eq_or, joinNibbles_hiNibble_zero]

theorem joinBytes_toNat (hi lo : Byte) : (joinBytes hi lo).toNat = 256 * hi.toNat + lo.toNat := by
  show (hi ++ lo).toNat = _
  rw [BitVec.toNat_append, ← Nat.shiftLeft_add_eq_or_of_lt lo.isLt, Nat.shiftLeft_eq]
  omega

/-- The value of a FLAGS byte from its bits, bit 7 first (10_state.md R31). -/
theorem packFlags_toNat (c z n v d h w m : Bool) : (packFlags c z n v d h w m).toNat =
    128 * c.toNat + 64 * z.toNat + 32 * n.toNat + 16 * v.toNat + 8 * d.toNat + 4 * h.toNat + 2 * w.toNat +
      m.toNat := by
  revert c z n v d h w m; decide

theorem flags_toNat (f : Byte) : f.toNat =
    128 * (flagC f).toNat + 64 * (flagZ f).toNat + 32 * (flagS f).toNat + 16 * (flagV f).toNat +
      8 * (flagD f).toNat + 4 * (flagH f).toNat + 2 * (flagWdt f).toNat + (flagSmr f).toNat := by
  rw [← packFlags_toNat, packFlags_self]

/-- Settles O5, clause by clause from what each name unfolds to. -/
theorem registerNames : Obligations.RegisterNames := by
  refine ⟨fun s n => joinNibbles_hiNibble _ n, fun s b => ?_, fun s a => joinBytes_toNat _ _, fun s => ⟨rfl, rfl, rfl⟩,
    packFlags_toNat, flags_toNat, fun s n b base => ⟨rfl, rfl, rfl, rfl, BitVec.toNat_add _ _⟩,
    fun s l v => ⟨rfl, rfl⟩⟩
  simp only [State.reg8, hiNibble_eq_escape_iff]
  rfl

theorem State.reset_progByte (a : Word) : State.reset.progByte a = none := rfl

/-- The default device meets what R6 asks of a device. -/
theorem Device.wf_default : Device.default.wf := by decide

theorem State.wf_reset : State.reset.wf := ⟨State.reset_regs_wf, State.reset_prog_wf, List.nodup_nil, nofun⟩

/-- Settles O7: the fields are those of `State.reset`, and its one stored register is SP. -/
theorem resetState : Obligations.ResetState :=
  ⟨by decide, by decide, by decide, rfl, rfl, rfl, State.reset_progByte, rfl, rfl, rfl,
    Device.wf_default, State.wf_reset⟩

end Sys2Proof.Machine
end

section
/-! O59: program memory changes only by LDC or LDCI to it. -/

namespace Sys2Proof.Machine

variable {s t : State}

/-- What every program byte reads as after a store whose instruction does nothing else to program memory
(20_memory.md R66). -/
theorem State.progByte_storeProgByte {a : Word} {v : Byte} {k : State → State}
    (hk : ∀ (u : State) (b : Word), (k u).progByte b = u.progByte b) (h : s.storeProgByte a v k = .next t) (b : Word) :
    t.progByte b = if s.dev.progWrite = .perform ∧ b = a then some v else s.progByte b := by
  obtain ⟨-, ⟨hignore, rfl⟩ | ⟨hperform, rfl⟩⟩ := State.storeProgByte_next.mp h
  · simp [hk, hignore]
  · simp [hk, hperform]

/-- Program memory after LDC Irr,r (40_load.md R156). -/
theorem execLdc_Irr_r_progByte {hi lo : Nibble} (h : execLdc_Irr_r hi lo s = .next t) (a : Word) :
    t.progByte a =
      if s.dev.progWrite = .perform ∧ a = s.pair (s.wr (pairNibble s.dev.ldcNibbles hi lo)) then
        some (s.plain 0 (s.wr (sourceNibble s.dev.ldcNibbles hi lo)))
      else s.progByte a := by
  obtain ⟨-, hstore⟩ := guarded_next.mp h
  exact State.progByte_storeProgByte (fun u b => u.progByte_advance 2 b) hstore a

/-- Program memory after LDCI Irr,Ir: stepping the two pointers does not touch it (45_block_transfer.md R242). -/
theorem execLdci_Irr_Ir_progByte {hi lo : Nibble} (h : execLdci_Irr_Ir hi lo s = .next t) (a : Word) :
    t.progByte a =
      if s.dev.progWrite = .perform ∧ a = s.pair (s.wr (pairNibble s.dev.ldcNibbles hi lo)) then
        some (s.plain 0 (s.reg (s.wr (sourceNibble s.dev.ldcNibbles hi lo))))
      else s.progByte a := by
  obtain ⟨-, hstore⟩ := guarded_next.mp h
  exact State.progByte_storeProgByte (fun u b => by simp) hstore a

theorem reservedNop_prog {opcode : Byte} (h : reservedNop opcode s = .next t) : t.prog = s.prog := by
  unfold reservedNop at h
  split at h <;> cases h <;> simp

/-- A meaning of every shape but the two stores leaves program memory as it was (20_memory.md R66, R75). -/
theorem ExecShape.prog {i : Instr} {m : State → Result} (h : ExecShape i m) (hldc : ∀ hi lo, i ≠ .ldc_Irr_r hi lo)
    (hldci : ∀ hi lo, i ≠ .ldci_Irr_Ir hi lo) (hm : m s = .next t) : t.prog = s.prog := by
  cases h with
  | ldc_Irr_r hi lo => exact absurd rfl (hldc hi lo)
  | ldci_Irr_Ir hi lo => exact absurd rfl (hldci hi lo)
  | load =>
    obtain ⟨-, rfl⟩ := load_next.mp hm
    simp
  | combine =>
    obtain ⟨-, rfl⟩ := combine_next.mp hm
    simp
  | testOperands =>
    obtain ⟨-, rfl⟩ := testOperands_next.mp hm
    simp
  | modify =>
    obtain ⟨-, rfl⟩ := modify_next.mp hm
    simp
  | modifyPair =>
    obtain ⟨-, rfl⟩ := modifyPair_next.mp hm
    simp
  | reservedNop => exact reservedNop_prog hm
  | ldc_r_Irr | ldci_Ir_Irr =>
    obtain ⟨-, hread⟩ := guarded_next.mp hm
    obtain ⟨-, v, -, hv⟩ := State.withProgByte_next.mp hread
    cases hv
    simp
  | popTo | pushFrom | call_DA | call_IRR | djnz_r_RA | jp_IRR | ret | iret | stop =>
    obtain ⟨-, hnext⟩ := guarded_next.mp hm
    cases hnext
    simp
  | jumpIf | updateFlags | setImr | srp_IM | nop | halt | wdt =>
    cases hm
    simp

theorem State.progByte_eq_of_prog (h : t.prog = s.prog) (a : Word) : t.progByte a = s.progByte a := by
  rw [State.progByte, State.progByte, h]

/-- Settles O59: the two stores by what each leaves in program memory, every other instruction by its shape. -/
theorem programMemoryChangesOnlyByStores : Obligations.ProgramMemoryChangesOnlyByStores := by
  intro i s t h addr cell
  split
  · exact execLdc_Irr_r_progByte h
  · exact execLdci_Irr_Ir_progByte h
  next hldc hldci => exact State.progByte_eq_of_prog ((exec_shape i).prog hldc hldci h)

end Sys2Proof.Machine
end

section
/-! O11: a fetch stops at the first byte that it cannot read. -/

namespace Sys2Proof.Machine

variable {s : State}

/-! ## Where a program byte cannot be read -/

theorem State.withProgByte_absent {a : Word} (h : hasProgram s.dev a = false) (k : Byte → Result) :
    s.withProgByte a k = .refused .absentProgram := by
  simp [State.withProgByte, State.progStop, stopIf, h]

theorem State.withProgByte_unloaded {a : Word} (hp : hasProgram s.dev a = true) (hv : s.progByte a = none)
    (k : Byte → Result) : s.withProgByte a k = .fault .unprogrammed := by
  rw [State.withProgByte, guarded_of_noStop (by simpa using hp), hv]

/-! ## What ends too early to decode -/

theorem opLength_range (b : Byte) : opLength b = 1 ∨ opLength b = 2 ∨ opLength b = 3 := by
  revert b; decide

/-- Bytes that start an instruction and are not one are fewer than its length (30_encoding.md R92, R120). -/
theorem length_lt_opLength_of_decode_error {b : Byte} {bs : List Byte} {e : DecodeError}
    (h : decode (b :: bs) = .error e) : bs.length < opLength b - 1 := by
  unfold decode at h
  rcases opLength_range b with hl | hl | hl
  · simp [hl] at h
  · cases bs with
    | nil => simp [hl]
    | cons b2 bs => simp [hl] at h
  · match bs with
    | [] | [_] => simp [hl]
    | _ :: _ :: _ => simp [hl] at h

/-! ## The fetch -/

/-- The bytes of program memory do not depend on the script. -/
theorem State.holds_withScript (script : List Boundary) (a : Word) (bs : List Byte) :
    State.holds { s with script := script } a bs ↔ s.holds a bs := by
  induction bs generalizing a with
  | nil => exact Iff.rfl
  | cons b bs ih => exact and_congr_right' (and_congr_right' (ih (a + 1)))

theorem add_one_add_ofNat (a : Word) (n : Nat) : a + 1 + BitVec.ofNat 16 n = a + BitVec.ofNat 16 (n + 1) := by
  bv_omega

/-- Where reading the byte after those held answers `m` whatever follows, so does fetching more bytes than are held. -/
theorem fetchBytes_stops {m : Result} {n : Nat} {a : Word} {bs : List Byte} {k : List Byte → Result}
    (hb : s.holds a bs) (hn : bs.length < n)
    (hm : ∀ k', s.withProgByte (a + BitVec.ofNat 16 bs.length) k' = m) : fetchBytes s n a k = m := by
  induction bs generalizing n a k with
  | nil =>
    obtain ⟨n, rfl⟩ := Nat.exists_eq_add_one_of_ne_zero (Nat.ne_zero_of_lt hn)
    rw [fetchBytes]
    simpa using hm _
  | cons b bs ih =>
    obtain ⟨n, rfl⟩ := Nat.exists_eq_add_one_of_ne_zero (Nat.ne_zero_of_lt hn)
    obtain ⟨hpresent, hbyte, hrest⟩ := hb
    rw [fetchBytes, State.withProgByte_some hpresent hbyte]
    refine ih hrest (Nat.lt_of_succ_lt_succ hn) fun k' => ?_
    rw [add_one_add_ofNat]
    exact hm k'

/-- Where the bytes held are no whole instruction, and reading the next answers `m`, so does running an instruction. -/
theorem State.runInstruction_stops {m : Result} {bs : List Byte} {e : DecodeError} (hb : s.holds s.pc bs)
    (he : decode bs = .error e) (hm : ∀ k, s.withProgByte (s.pc + BitVec.ofNat 16 bs.length) k = m) :
    s.runInstruction = m := by
  cases bs with
  | nil =>
    rw [State.runInstruction, fetchThen]
    simpa using hm _
  | cons b bs =>
    obtain ⟨hpresent, hbyte, hrest⟩ := hb
    rw [State.runInstruction, fetchThen, State.withProgByte_some hpresent hbyte]
    refine fetchBytes_stops hrest (length_lt_opLength_of_decode_error he) fun k => ?_
    rw [add_one_add_ofNat]
    exact hm k

/-- Settles O11: at a quiet boundary the step runs an instruction, whose fetch stops where the next byte cannot be
read. -/
theorem fetchStops : Obligations.FetchStops := by
  rintro s bs hquiet hb ⟨e, he⟩ a
  have hb' := (State.holds_withScript s.script.tail s.pc bs).mpr hb
  rw [step_of_undisturbed hquiet]
  exact ⟨fun habsent => State.runInstruction_stops hb' he (State.withProgByte_absent habsent),
    fun hpresent hnone => State.runInstruction_stops hb' he (State.withProgByte_unloaded hpresent hnone)⟩

end Sys2Proof.Machine
end

section
/-! O1, O2: decoding and encoding undo each other. -/

namespace Sys2Proof

open Machine

/-! ## Fields put together and taken apart -/

@[simp] theorem hiNibble_joinNibbles (hi lo : Nibble) : hiNibble (joinNibbles hi lo) = hi := by
  revert hi lo; decide

@[simp] theorem loNibble_joinNibbles (hi lo : Nibble) : loNibble (joinNibbles hi lo) = lo := by
  revert hi lo; decide

@[simp] theorem joinNibbles_hiNibble_loNibble (b : Byte) : joinNibbles (hiNibble b) (loNibble b) = b := by
  revert b; decide

@[simp] theorem hiByte_joinBytes (hi lo : Byte) : hiByte (joinBytes hi lo) = hi := by
  apply BitVec.eq_of_toNat_eq
  rw [hiByte, BitVec.extractLsb'_toNat, joinBytes_toNat, Nat.shiftRight_eq_div_pow]
  omega

@[simp] theorem loByte_joinBytes (hi lo : Byte) : loByte (joinBytes hi lo) = lo := by
  apply BitVec.eq_of_toNat_eq
  rw [loByte, BitVec.extractLsb'_toNat, joinBytes_toNat, Nat.shiftRight_zero]
  omega

@[simp] theorem joinBytes_hiByte_loByte (w : Word) : joinBytes (hiByte w) (loByte w) = w := by
  apply BitVec.eq_of_toNat_eq
  rw [joinBytes_toNat, hiByte, loByte, BitVec.extractLsb'_toNat, BitVec.extractLsb'_toNat, Nat.shiftRight_eq_div_pow,
    Nat.shiftRight_zero]
  omega

@[simp] theorem Cond.ofBits_bits (cc : Cond) : Cond.ofBits cc.bits = cc := by cases cc <;> rfl

@[simp] theorem Cond.bits_ofBits (n : Nibble) : (Cond.ofBits n).bits = n := by revert n; decide

/-! ## How many bytes the decoder takes -/

theorem operands_length_le {b : Byte} {ops : List Byte} (hl : opLength b = ops.length + 1) : ops.length ≤ 2 := by
  have := opLength_range b
  omega

/-- The decoder gives what the bytes of the length that the first byte selects decode to, and leaves what comes after
them (30_encoding.md R92, R120). -/
theorem decode_ok_iff {bs rest : List Byte} {i : Instr} :
    decode bs = .ok (i, rest) ↔ ∃ b ops, bs = b :: (ops ++ rest) ∧ opLength b = ops.length + 1 ∧
      i = decodeBytes b (ops.getD 0 0) (ops.getD 1 0) := by
  constructor
  · intro h
    cases bs with
    | nil => cases h
    | cons b bs =>
      rcases opLength_range b with hl | hl | hl
      · simp only [decode, hl, Except.ok.injEq, Prod.mk.injEq] at h
        obtain ⟨rfl, rfl⟩ := h
        exact ⟨b, [], rfl, hl, rfl⟩
      · cases bs with
        | nil => simp [decode, hl] at h
        | cons b2 bs =>
          simp only [decode, hl, Except.ok.injEq, Prod.mk.injEq] at h
          obtain ⟨rfl, rfl⟩ := h
          exact ⟨b, [b2], rfl, hl, rfl⟩
      · match bs with
        | [] | [_] => simp [decode, hl] at h
        | b2 :: b3 :: bs =>
          simp only [decode, hl, Except.ok.injEq, Prod.mk.injEq] at h
          obtain ⟨rfl, rfl⟩ := h
          exact ⟨b, [b2, b3], rfl, hl, rfl⟩
  · rintro ⟨b, ops, rfl, hl, rfl⟩
    match ops with
    | [] | [_] | [_, _] => simp [decode, hl]
    | _ :: _ :: _ :: _ => exact absurd (operands_length_le hl) (by simp)

/-- The encoding of every instruction is as long as its first byte says (R92). -/
theorem encodedLength (i : Instr) : Laws.EncodedLength.Statement i := by
  cases i with
  | ld_r_R dst src => exact Laws.EncodedLength.ld_r_R dst src
  | ld_R_r dst src => exact Laws.EncodedLength.ld_R_r dst src
  | djnz_r_RA n offset => exact Laws.EncodedLength.djnz_r_RA n offset
  | jr_cc_RA cc offset => exact Laws.EncodedLength.jr_cc_RA cc offset
  | ld_r_IM dst imm => exact Laws.EncodedLength.ld_r_IM dst imm
  | jp_cc_DA cc target => exact Laws.EncodedLength.jp_cc_DA cc target
  | inc_r dst => exact Laws.EncodedLength.inc_r dst
  | _ => rfl

theorem encode_eq_cons (i : Instr) : ∃ b ops, encode i = b :: ops ∧ opLength b = ops.length + 1 := by
  have h := encodedLength i
  unfold Laws.EncodedLength.Statement at h
  split at h
  · exact h.elim
  next he => exact ⟨_, _, he, h⟩

/-! ## From an instruction to its bytes and back -/

/-- The bytes of an instruction decode to it: no bit of an operand is dropped (R91, R93, R95). -/
theorem decodeBytes_encode (i : Instr) :
    decodeBytes ((encode i).getD 0 0) ((encode i).getD 1 0) ((encode i).getD 2 0) = i := by
  cases i with
  | add_r_r x y | adc_r_r x y | sub_r_r x y | sbc_r_r x y | or_r_r x y | and_r_r x y | tcm_r_r x y | tm_r_r x y
  | cp_r_r x y | xor_r_r x y | ldc_r_Irr x y | ldc_Irr_r x y
  | add_r_Ir x y | adc_r_Ir x y | sub_r_Ir x y | sbc_r_Ir x y | or_r_Ir x y | and_r_Ir x y | tcm_r_Ir x y
  | tm_r_Ir x y | cp_r_Ir x y | xor_r_Ir x y | ldci_Ir_Irr x y | ldci_Irr_Ir x y | ld_r_Ir x y | ld_Ir_r x y =>
    simp only [encode, List.getD_cons_zero, List.getD_cons_succ]
    exact congr (congrArg _ (hiNibble_joinNibbles x y)) (loNibble_joinNibbles x y)
  | ld_r_X x y base | ld_X_r x y base =>
    simp only [encode, List.getD_cons_zero, List.getD_cons_succ]
    exact congrFun (congr (congrArg _ (hiNibble_joinNibbles x y)) (loNibble_joinNibbles x y)) base
  | call_DA target =>
    simp only [encode, List.getD_cons_zero, List.getD_cons_succ]
    exact congrArg _ (joinBytes_hiByte_loByte target)
  | ld_r_R | ld_R_r | djnz_r_RA | jr_cc_RA | ld_r_IM | jp_cc_DA | inc_r => simp [encode, decodeBytes]
  | _ =>
    simp only [encode, List.getD_cons_zero, List.getD_cons_succ]
    rfl

/-- Settles O1: the bytes are a whole instruction, and it is the one that was encoded. -/
theorem decodeAfterEncode : Obligations.DecodeAfterEncode := by
  intro i rest
  obtain ⟨b, ops, he, hl⟩ := encode_eq_cons i
  refine decode_ok_iff.mpr ⟨b, ops, by rw [he, List.cons_append], hl, ?_⟩
  simpa [he] using (decodeBytes_encode i).symm

/-! ## From bytes to an instruction and back -/

theorem nibble_induction {P : Nibble → Prop} (row : ∀ k : Fin 16, P (BitVec.ofFin k)) (n : Nibble) : P n :=
  row n.toFin

/-! The columns of the map in which the row selects the instruction, row by row (R100). How many bytes a row takes is
its column's length, but for CALL IRR and the blank cells (R92, R105). -/

section
variable (hi : Nibble) (b2 b3 : Byte)

theorem encode_column0 :
    encode (column0 hi b2) = [joinNibbles hi 0x0#4, b2, b3].take (opLength (joinNibbles hi 0x0#4)) := by
  induction hi using nibble_induction with | row k => fin_cases k <;> rfl

theorem encode_column1 :
    encode (column1 hi b2) = [joinNibbles hi 0x1#4, b2, b3].take (opLength (joinNibbles hi 0x1#4)) := by
  induction hi using nibble_induction with | row k => fin_cases k <;> rfl

theorem encode_column2 :
    encode (column2 hi b2) = [joinNibbles hi 0x2#4, b2, b3].take (opLength (joinNibbles hi 0x2#4)) := by
  conv_rhs => rw [← joinNibbles_hiNibble_loNibble b2]
  induction hi using nibble_induction with | row k => fin_cases k <;> rfl

theorem encode_column3 :
    encode (column3 hi b2) = [joinNibbles hi 0x3#4, b2, b3].take (opLength (joinNibbles hi 0x3#4)) := by
  conv_rhs => rw [← joinNibbles_hiNibble_loNibble b2]
  induction hi using nibble_induction with | row k => fin_cases k <;> rfl

theorem encode_column4 :
    encode (column4 hi b2 b3) = [joinNibbles hi 0x4#4, b2, b3].take (opLength (joinNibbles hi 0x4#4)) := by
  induction hi using nibble_induction with | row k => fin_cases k <;> rfl

theorem encode_column5 :
    encode (column5 hi b2 b3) = [joinNibbles hi 0x5#4, b2, b3].take (opLength (joinNibbles hi 0x5#4)) := by
  induction hi using nibble_induction with | row k => fin_cases k <;> rfl

theorem encode_column6 :
    encode (column6 hi b2 b3) = [joinNibbles hi 0x6#4, b2, b3].take (opLength (joinNibbles hi 0x6#4)) := by
  induction hi using nibble_induction with | row k => fin_cases k <;> simp [column6, encode] <;> rfl

theorem encode_column7 :
    encode (column7 hi b2 b3) = [joinNibbles hi 0x7#4, b2, b3].take (opLength (joinNibbles hi 0x7#4)) := by
  induction hi using nibble_induction with | row k => fin_cases k <;> simp [column7, encode] <;> rfl

theorem encode_columnF :
    encode (columnF hi) = [joinNibbles hi 0xF#4, b2, b3].take (opLength (joinNibbles hi 0xF#4)) := by
  induction hi using nibble_induction with | row k => fin_cases k <;> rfl

/-- What three bytes decode to is encoded by as many of them as the first selects; the columns with a number in the
op code, by what `opLength` is there. -/
theorem encode_decodeBytes_joinNibbles (lo : Nibble) :
    encode (decodeBytes (joinNibbles hi lo) b2 b3) =
      [joinNibbles hi lo, b2, b3].take (opLength (joinNibbles hi lo)) := by
  obtain ⟨h8, h9, hA, hC, hE⟩ := Laws.EncodedLength.opLength_working hi
  obtain ⟨hB, hD⟩ := Laws.EncodedLength.opLength_condition (.ofBits hi)
  rw [Cond.bits_ofBits] at hB hD
  rw [decodeBytes, hiNibble_joinNibbles, loNibble_joinNibbles]
  induction lo using nibble_induction with
  | row k =>
    fin_cases k
    · exact encode_column0 hi b2 b3
    · exact encode_column1 hi b2 b3
    · exact encode_column2 hi b2 b3
    · exact encode_column3 hi b2 b3
    · exact encode_column4 hi b2 b3
    · exact encode_column5 hi b2 b3
    · exact encode_column6 hi b2 b3
    · exact encode_column7 hi b2 b3
    · simp [encode, h8]
    · simp [encode, h9]
    · simp [encode, hA]
    · simp [encode, hB]
    · simp [encode, hC]
    · simp [encode, hD]
    · simp [encode, hE]
    · exact encode_columnF hi b2 b3

end

theorem encode_decodeBytes (b1 b2 b3 : Byte) :
    encode (decodeBytes b1 b2 b3) = [b1, b2, b3].take (opLength b1) := by
  simpa using encode_decodeBytes_joinNibbles (hiNibble b1) b2 b3 (loNibble b1)

/-- Settles O2: the bytes taken are those of the length, and the instruction is encoded by just these. -/
theorem encodeAfterDecode : Obligations.EncodeAfterDecode := by
  intro bs i rest h
  obtain ⟨b, ops, rfl, hl, rfl⟩ := decode_ok_iff.mp h
  rw [encode_decodeBytes, hl]
  match ops with
  | [] | [_] | [_, _] => rfl
  | _ :: _ :: _ :: _ => exact absurd (operands_length_le hl) (by simp)

end Sys2Proof
end

section
/-! O4: every first byte decodes, and where operands stand. -/

namespace Sys2Proof

open Machine

/-- The row of a reserved op code has no operand: whatever bytes follow, it is the same instruction (R105). -/
theorem reservedInstrs_eq_map (b2 b3 : Byte) :
    reservedInstrs = reservedOpcodes.map fun b => (b, decodeBytes b b2 b3) := rfl

theorem mem_reservedInstrs_decodeBytes (b1 b2 b3 : Byte) :
    (b1, decodeBytes b1 b2 b3) ∈ reservedInstrs ↔ b1 ∈ reservedOpcodes := by
  simp [reservedInstrs_eq_map b2 b3]

/-- Three bytes are enough for every first byte (R92, R101). -/
theorem decode_three (b1 b2 b3 : Byte) :
    ∃ c2 c3, decode [b1, b2, b3] = .ok (decodeBytes b1 c2 c3, [b1, b2, b3].drop (opLength b1)) := by
  rcases opLength_range b1 with hl | hl | hl
  · exact ⟨0, 0, by simp [decode, hl]⟩
  · exact ⟨b2, 0, by simp [decode, hl]⟩
  · exact ⟨b2, b3, by simp [decode, hl]⟩

/-- Settles O4: the reserved rows by `reservedInstrs_eq_map`, the operand bytes form by form. -/
theorem everyFirstByteDecodes : Obligations.EveryFirstByteDecodes := by
  refine ⟨fun b1 b2 b3 => ?_, rfl, by decide, fun f => ?_, fun f => ?_⟩
  · obtain ⟨c2, c3, h⟩ := decode_three b1 b2 b3
    exact ⟨_, h, (mem_reservedInstrs_decodeBytes b1 c2 c3).symm⟩
  · cases f <;> exact List.map_eq_replicate_iff.mp rfl
  · cases f <;> exact List.map_eq_replicate_iff.mp rfl

end Sys2Proof
end

section
/-! O6: the condition codes. -/

namespace Sys2Proof

open Machine

/-- The condition whose code differs in bit 3 (30_encoding.md R110). -/
def Cond.negate : Cond → Cond
  | .never => .always
  | .lt => .ge
  | .le => .gt
  | .ule => .ugt
  | .ov => .nov
  | .mi => .pl
  | .z => .nz
  | .c => .nc
  | .always => .never
  | .ge => .lt
  | .gt => .le
  | .ugt => .ule
  | .nov => .ov
  | .pl => .mi
  | .nz => .z
  | .nc => .c

theorem Cond.ofBits_xor_eight (n : Nibble) : Cond.ofBits (n ^^^ 8#4) = (Cond.ofBits n).negate := by
  revert n; decide

theorem condHolds_negate (cc : Cond) (f : Byte) : condHolds cc.negate f = !condHolds cc f := by
  cases cc <;> simp [Cond.negate, condHolds]

/-- Settles O6: bit 3 negates the condition, and the first eight read the flags where FLAGS has them. -/
theorem conditionCodes : Obligations.ConditionCodes := by
  refine ⟨fun n f => ?_, fun c z n v d h w m => ?_⟩
  · rw [Cond.ofBits_xor_eight, condHolds_negate]
  · obtain ⟨hC, hZ, hS, hV, -⟩ := packFlags_bits c z n v d h w m
    simp [Cond.ofBits, condHolds, hC, hZ, hS, hV]

end Sys2Proof
end

section
/-! O10: a step at a quiet boundary runs the decoded instruction, and where pc is after it. -/

namespace Sys2Proof.Machine

variable {s t : State}

/-! ## The fetch -/

/-- A fetch of bytes that program memory holds goes on with them. -/
theorem fetchBytes_of_holds {a : Word} {ops rest : List Byte} {k : List Byte → Result} (h : s.holds a (ops ++ rest)) :
    fetchBytes s ops.length a k = k ops := by
  induction ops generalizing a k with
  | nil => rfl
  | cons b ops ih =>
    obtain ⟨hpresent, hbyte, hrest⟩ := h
    rw [List.length_cons, fetchBytes, State.withProgByte_some hpresent hbyte]
    exact ih hrest

/-- Where the bytes at pc decode, the instruction that they decode to is executed (30_encoding.md R90, R120). -/
theorem State.runInstruction_of_holds {bs rest : List Byte} {i : Instr} (hb : s.holds s.pc bs)
    (hd : decode bs = .ok (i, rest)) : s.runInstruction = exec i s.countInstruction := by
  obtain ⟨b, ops, rfl, hl, rfl⟩ := decode_ok_iff.mp hd
  obtain ⟨hpresent, hbyte, hrest⟩ := hb
  rw [State.runInstruction, fetchThen, State.withProgByte_some hpresent hbyte, hl, Nat.add_sub_cancel,
    fetchBytes_of_holds hrest]

/-! ## Where each shape leaves pc -/

theorem pc_of_load {dst : Loc} {src : Src} {length : Word} (h : load dst src length s = .next t) :
    t.pc = s.pc + length := by
  obtain ⟨-, rfl⟩ := load_next.mp h
  simp

theorem pc_of_combine {f : Byte → Byte → Byte × FlagUpdate} {dst : Loc} {src : Src} {length : Word}
    (h : combine f dst src length s = .next t) : t.pc = s.pc + length := by
  obtain ⟨-, rfl⟩ := combine_next.mp h
  simp

theorem pc_of_testOperands {f : Byte → Byte → FlagUpdate} {dst : Loc} {src : Src} {length : Word}
    (h : testOperands f dst src length s = .next t) : t.pc = s.pc + length := by
  obtain ⟨-, rfl⟩ := testOperands_next.mp h
  simp

theorem pc_of_modify {f : Byte → Byte × FlagUpdate} {dst : Loc} {length : Word}
    (h : modify f dst length s = .next t) : t.pc = s.pc + length := by
  obtain ⟨-, rfl⟩ := modify_next.mp h
  simp

theorem pc_of_modifyPair {f : Word → Word × FlagUpdate} {dst : Loc} {length : Word}
    (h : modifyPair f dst length s = .next t) : t.pc = s.pc + length := by
  obtain ⟨-, rfl⟩ := modifyPair_next.mp h
  simp

theorem pc_of_popTo {dst : Loc} (h : popTo dst s = .next t) : t.pc = s.pc + 2 := by
  obtain ⟨-, h⟩ := guarded_next.mp h
  cases h
  simp

theorem pc_of_pushFrom {src : Loc} (h : pushFrom src s = .next t) : t.pc = s.pc + 2 := by
  obtain ⟨-, h⟩ := guarded_next.mp h
  cases h
  simp

/-- A store to program memory does not touch pc; what follows it in the instruction may. -/
theorem State.pc_of_storeProgByte {a : Word} {v : Byte} {k : State → State} {length : Word}
    (hk : ∀ u : State, (k u).pc = u.pc + length) (h : s.storeProgByte a v k = .next t) : t.pc = s.pc + length := by
  obtain ⟨-, ⟨-, rfl⟩ | ⟨-, rfl⟩⟩ := State.storeProgByte_next.mp h
  · exact hk s
  · exact hk (s.setProgByte a v)

theorem mayWritePc_of_reserved {i : Instr} (h : i ∈ reservedInstrs.map Prod.snd) : mayWritePc i := by
  obtain ⟨⟨b, _⟩, hb, rfl⟩ := List.mem_map.mp h
  exact .inr (.inr (.inr (.inr (.inr (.inr (.inr ⟨b, hb⟩))))))

/-- Where an instruction does not write pc itself, pc moves past the bytes of its encoding (10_state.md R29). -/
theorem exec_pc {i : Instr} (hi : ¬mayWritePc i) (h : exec i s = .next t) :
    t.pc = s.pc + BitVec.ofNat 16 (encode i).length := by
  cases i with
  | add_r_r | add_r_Ir | add_R_R | add_R_IR | add_R_IM | add_IR_IM
  | adc_r_r | adc_r_Ir | adc_R_R | adc_R_IR | adc_R_IM | adc_IR_IM
  | sub_r_r | sub_r_Ir | sub_R_R | sub_R_IR | sub_R_IM | sub_IR_IM
  | sbc_r_r | sbc_r_Ir | sbc_R_R | sbc_R_IR | sbc_R_IM | sbc_IR_IM
  | and_r_r | and_r_Ir | and_R_R | and_R_IR | and_R_IM | and_IR_IM
  | or_r_r | or_r_Ir | or_R_R | or_R_IR | or_R_IM | or_IR_IM
  | xor_r_r | xor_r_Ir | xor_R_R | xor_R_IR | xor_R_IM | xor_IR_IM => exact pc_of_combine h
  | cp_r_r | cp_r_Ir | cp_R_R | cp_R_IR | cp_R_IM | cp_IR_IM
  | tcm_r_r | tcm_r_Ir | tcm_R_R | tcm_R_IR | tcm_R_IM | tcm_IR_IM
  | tm_r_r | tm_r_Ir | tm_R_R | tm_R_IR | tm_R_IM | tm_IR_IM => exact pc_of_testOperands h
  | dec_R | dec_IR | inc_r | inc_R | inc_IR | da_R | da_IR | com_R | com_IR | swap_R | swap_IR
  | rl_R | rl_IR | rlc_R | rlc_IR | rr_R | rr_IR | rrc_R | rrc_IR | sra_R | sra_IR => exact pc_of_modify h
  | decw_RR | decw_IR | incw_RR | incw_IR => exact pc_of_modifyPair h
  | clr_R | clr_IR | ld_r_IM | ld_r_R | ld_R_r | ld_r_X | ld_X_r | ld_r_Ir | ld_Ir_r
  | ld_R_R | ld_R_IR | ld_R_IM | ld_IR_IM | ld_IR_R => exact pc_of_load h
  | pop_R | pop_IR => exact pc_of_popTo h
  | push_R | push_IR => exact pc_of_pushFrom h
  | ldc_r_Irr | ldci_Ir_Irr =>
    obtain ⟨-, hread⟩ := guarded_next.mp h
    obtain ⟨-, v, -, hv⟩ := State.withProgByte_next.mp hread
    cases hv
    simp [encode]
  | ldc_Irr_r | ldci_Irr_Ir =>
    obtain ⟨-, hstore⟩ := guarded_next.mp h
    exact State.pc_of_storeProgByte (fun u => by simp [encode]) hstore
  | ccf | rcf | scf | di | ei | srp_IM | nop | halt | wdt =>
    cases h
    rfl
  | stop =>
    obtain ⟨-, rfl⟩ := exec_stop_next.mp h
    rfl
  | call_DA | call_IRR | jp_IRR | djnz_r_RA | jp_cc_DA | jr_cc_RA | iret | ret => simp [mayWritePc] at hi
  | reserved_0F | reserved_1F | reserved_2F | reserved_3F | reserved_4F
  | reserved_82 | reserved_83 | reserved_84 | reserved_85 | reserved_86 | reserved_87
  | reserved_92 | reserved_93 | reserved_94 | reserved_95 | reserved_96 | reserved_97
  | reserved_C4 | reserved_C5 | reserved_C6 | reserved_D5 | reserved_E2
  | reserved_F2 | reserved_F4 | reserved_F6 | reserved_F7 =>
    exact absurd (mayWritePc_of_reserved (by simp [reservedInstrs])) hi

/-- Settles O10: the fetch takes what `decode` takes, and pc moves by shape. -/
theorem stepRunsDecodedInstruction : Obligations.StepRunsDecodedInstruction := by
  refine ⟨fun s bs rest i hquiet hb hd => ?_, fun i s t h => ?_,
    fun _ _ _ _ => ⟨rfl, rfl, rfl, rfl, rfl, rfl, rfl, rfl⟩⟩
  · rw [step_of_undisturbed hquiet]
    exact State.runInstruction_of_holds ((State.holds_withScript s.script.tail s.pc bs).mpr hb) hd
  · exact or_iff_not_imp_left.mpr fun hi => exec_pc hi h

end Sys2Proof.Machine
end

section
/-! SUPPORT. What an instruction leaves unchanged, update by update, and when a guard refuses for one of some reasons. -/

namespace Sys2Proof.Machine

variable {s t : State} {written : List Byte}

/-! ## The frame -/

theorem SameBut.refl (s : State) (written : List Byte) : SameBut s s written :=
  ⟨fun _ _ => rfl, fun _ => rfl, SameRest.refl s⟩

/-- A store to one of the registers that may differ. -/
theorem SameBut.setReg (h : SameBut s t written) {a : Byte} (ha : a ∈ written) (v : Byte) :
    SameBut s (t.setReg a v) written := by
  obtain ⟨hreg, hprog, hrest⟩ := h
  refine ⟨fun b hb => ?_, hprog, hrest⟩
  have hne : b ≠ a := by
    rintro rfl
    exact hb ha
  rw [State.reg_setReg_other t v hne, hreg b hb]

theorem SameBut.setSp (h : SameBut s t written) (hsp : t.dev.spAddr ∈ written) (v : Byte) :
    SameBut s (t.setSp v) written := h.setReg hsp v

theorem SameBut.advance (h : SameBut s t written) (length : Word) : SameBut s (t.advance length) written := h

theorem SameRest.trans {u : State} (h : SameRest s t) (h' : SameRest t u) : SameRest s u := by
  obtain ⟨hmode, hpending, hdev, hscript, hemitted, hexecuted, hsince, hended⟩ := h
  obtain ⟨hmode', hpending', hdev', hscript', hemitted', hexecuted', hsince', hended'⟩ := h'
  exact ⟨hmode'.trans hmode, hpending'.trans hpending, hdev'.trans hdev, hscript'.trans hscript,
    hemitted'.trans hemitted, hexecuted'.trans hexecuted, hsince'.trans hsince, hended'.trans hended⟩

/-- What differs after two stretches differs after one of them. -/
theorem SameBut.trans {u : State} {later : List Byte} (h : SameBut s t written) (h' : SameBut t u later) :
    SameBut s u (written ++ later) := by
  obtain ⟨hreg, hprog, hrest⟩ := h
  obtain ⟨hreg', hprog', hrest'⟩ := h'
  refine ⟨fun a ha => ?_, fun a => (hprog' a).trans (hprog a), hrest.trans hrest'⟩
  simp only [List.mem_append, not_or] at ha
  obtain ⟨hfirst, hlater⟩ := ha
  exact (hreg' a hlater).trans (hreg a hfirst)

theorem SameBut.dev (h : SameBut s t written) : t.dev = s.dev := by
  obtain ⟨-, -, -, -, hdev, -⟩ := h
  exact hdev

/-- A register that has its value back does not differ. -/
theorem SameBut.of_restored {rest : List Byte} (h : SameBut s t written)
    (hback : ∀ a ∈ written, a ∉ rest → t.reg a = s.reg a) : SameBut s t rest := by
  obtain ⟨hreg, hother⟩ := h
  refine ⟨fun a ha => ?_, hother⟩
  by_cases hw : a ∈ written
  · exact hback a hw ha
  · exact hreg a hw

/-- A plain write and the step of pc past the instruction do nothing else (10_state.md R25). -/
theorem plainWrite_put_advance (s : State) (d v : Byte) (length : Word) :
    PlainWrite s ((s.put d v).advance length) d v := by
  refine ⟨fun hd => ?_, fun hd => ?_⟩
  · rw [State.put_of_ordinary hd]
    exact ⟨s.reg_setReg_same d v, ((SameBut.refl s [d]).setReg (by simp) v).advance length⟩
  · rw [State.put_of_device hd]
    exact (SameBut.refl _ []).advance length

/-- An ordinary register's plain read is its contents (10_state.md R25). -/
theorem State.plain_of_ordinary {a : Byte} (h : isDevice s.dev a = false) (ordinal : Nat) :
    s.plain ordinal a = s.reg a := by simp [State.plain, h]

/-! ## Guards -/

/-- A guard can be read in two parts. -/
theorem guarded_append (front back : List (Option Refusal)) (k : Result) :
    guarded (front ++ back) k = guarded front (guarded back k) := by
  induction front with
  | nil => rfl
  | cons c front ih =>
    cases c with
    | none => exact ih
    | some r => rfl

/-- A guard that is stopped refuses for one of the reasons that it can have. -/
theorem guarded_refuses {stops : List (Option Refusal)} {reasons : List Refusal}
    (hreasons : ∀ r, some r ∈ stops → r ∈ reasons) (h : ¬NoStop stops) (k : Result) :
    ∃ r ∈ reasons, guarded stops k = .refused r := by
  obtain ⟨r, hr, hrefused⟩ := guarded_of_stop h k
  exact ⟨r, hreasons r hr, hrefused⟩

/-- The reasons that an operand may not be read, or written by a load. -/
theorem Loc.accessStops_some {l : Loc} {r : Refusal}
    (h : some r ∈ [l.pointerStop s, s.accessStop (l.address s)]) : r = .absentRegister ∨ r = .deviceRegister :=
  Src.stops_some (src := .loc l) h

end Sys2Proof.Machine
end

section
/-! O38: CLR and the twelve forms of LD. -/

namespace Sys2Proof.Machine

variable {s : State}

theorem exec_loadInstr (f : LoadForm) (s : State) : exec (loadInstr f) s = load f.dst f.src f.length s := by
  cases f <;> rfl

theorem load_noStop (dst : Loc) (src : Src) (s : State) :
    NoStop (src.stops s ++ [dst.pointerStop s, s.accessStop (dst.address s)]) ↔ src.readable s ∧ dst.accessible s := by
  rw [noStop_append, Src.stops_noStop, Loc.accessStops_noStop]

theorem load_of_usable {dst : Loc} {src : Src} (hsrc : src.readable s) (hdst : dst.accessible s) (length : Word) :
    load dst src length s = .next ((s.put (dst.address s) (src.value s)).advance length) :=
  load_next.mpr ⟨(load_noStop dst src s).mpr ⟨hsrc, hdst⟩, rfl⟩

/-- A load with an operand that may not be used is refused (10_state.md R24, 20_memory.md R69). -/
theorem load_refuses {dst : Loc} {src : Src} (h : ¬(src.readable s ∧ dst.accessible s)) (length : Word) :
    ∃ r ∈ [Refusal.absentRegister, .deviceRegister], load dst src length s = .refused r := by
  refine guarded_refuses (fun r hr => ?_) (mt (load_noStop dst src s).mp h) _
  have hr : r = .absentRegister ∨ r = .deviceRegister :=
    (List.mem_append.mp hr).elim Src.stops_some Loc.accessStops_some
  simpa using hr

/-- Settles O38: each form is one load, of its source to its destination. -/
theorem loadAndClear : Obligations.LoadAndClear := by
  refine ⟨fun f s hsrc hdst => ?_, fun f s h => ?_, fun f => by cases f <;> rfl⟩
  · exact ⟨_, (exec_loadInstr f s).trans (load_of_usable hsrc hdst f.length), by simp, plainWrite_put_advance s _ _ _⟩
  · rw [Refuses, exec_loadInstr]
    exact load_refuses h f.length

end Sys2Proof.Machine
end

section
/-! O39, O40: LDC from and to program memory. -/

namespace Sys2Proof.Machine

variable {s : State}

/-! ## Both directions name a pair and a register -/

theorem ldc_noStop (s : State) (p a : Byte) :
    NoStop [s.pairStop p, s.accessStop a] ↔ s.pairOk p ∧ hasRegister s.dev a = true := by
  rw [noStop_cons, State.pairStop_none, noStop_cons, State.accessStop_none, and_iff_left noStop_nil]

theorem ldc_stops_some {p a : Byte} {r : Refusal} (h : some r ∈ [s.pairStop p, s.accessStop a]) :
    r ∈ [Refusal.oddPair, .absentRegister, .deviceRegister] := by
  simp only [List.mem_cons, List.not_mem_nil, or_false] at h
  rcases h with h | h
  · simpa using State.pairStop_some h.symm
  · obtain rfl := State.accessStop_some h.symm
    simp

/-- With a pair or a register that may not be used LDC is refused (10_state.md R23, R24, 20_memory.md R69). -/
theorem ldc_refuses {p a : Byte} (h : ¬(s.pairOk p ∧ hasRegister s.dev a = true)) (k : Result) :
    ∃ r ∈ [Refusal.oddPair, .absentRegister, .deviceRegister],
      guarded [s.pairStop p, s.accessStop a] k = .refused r :=
  guarded_refuses (fun _ => ldc_stops_some) (mt (ldc_noStop s p a).mp h) k

/-! ## From program memory -/

theorem exec_ldc_r_Irr {n p : Nibble} (hp : s.pairOk (s.wr p)) (hn : hasRegister s.dev (s.wr n) = true) :
    exec (.ldc_r_Irr n p) s =
      s.withProgByte (s.pair (s.wr p)) fun v => .next ((s.put (s.wr n) v).advance 2) :=
  guarded_of_noStop ((ldc_noStop s _ _).mpr ⟨hp, hn⟩) _

/-- Settles O39: with operands that may be used the program read decides. -/
theorem loadConstant : Obligations.LoadConstant := by
  refine ⟨fun n p s hp hn => ?_, fun n p s h => ldc_refuses h _, fun n p => rfl⟩
  have hexec := exec_ldc_r_Irr hp hn
  refine ⟨fun v hv => ?_, fun habsent => ?_, fun hpresent hunloaded => ?_⟩
  · obtain ⟨hpresent, hbyte⟩ := hv
    exact ⟨_, hexec.trans (State.withProgByte_some hpresent hbyte _), by simp, plainWrite_put_advance s _ v 2⟩
  · exact hexec.trans (State.withProgByte_absent habsent _)
  · exact hexec.trans (State.withProgByte_unloaded hpresent hunloaded _)

/-! ## To program memory -/

theorem State.storeProgByte_absent {a : Word} (h : hasProgram s.dev a = false) (v : Byte) (k : State → State) :
    s.storeProgByte a v k = .refused .absentProgram := by
  simp [State.storeProgByte, State.progStop, stopIf, h]

theorem State.storeProgByte_refuse {a : Word} (hp : hasProgram s.dev a = true) (hw : s.dev.progWrite = .refuse)
    (v : Byte) (k : State → State) : s.storeProgByte a v k = .refused .programStore := by
  rw [State.storeProgByte, guarded_of_noStop (by simpa using hp), hw]

theorem exec_ldc_Irr_r {hi lo : Nibble} (hp : s.pairOk (s.wr (pairNibble s.dev.ldcNibbles hi lo)))
    (hsrc : hasRegister s.dev (s.wr (sourceNibble s.dev.ldcNibbles hi lo)) = true) :
    exec (.ldc_Irr_r hi lo) s =
      s.storeProgByte (s.pair (s.wr (pairNibble s.dev.ldcNibbles hi lo)))
        (s.plain 0 (s.wr (sourceNibble s.dev.ldcNibbles hi lo))) fun t => t.advance 2 :=
  guarded_of_noStop ((ldc_noStop s _ _).mpr ⟨hp, hsrc⟩) _

/-- Settles O40: with operands that may be used the program store decides. -/
theorem storeConstant : Obligations.StoreConstant := by
  intro hi lo s
  simp only [← pairNibble_eq_ite _ hi lo, ← sourceNibble_eq_ite _ hi lo]
  refine ⟨fun hp hsrc => ?_, fun h => ldc_refuses h _, rfl⟩
  have hexec := exec_ldc_Irr_r hp hsrc
  refine ⟨fun hpresent => ⟨fun hw => ?_, fun hw => ?_, fun hw => ?_⟩, fun habsent => ?_⟩
  · refine ⟨_, hexec.trans (State.storeProgByte_next.mpr ⟨hpresent, .inr ⟨hw, rfl⟩⟩), rfl, ?_, fun a ha => ?_,
      fun _ => rfl, SameRest.refl s⟩
    · exact (s.progByte_setProgByte _ _ _).trans (if_pos rfl)
    · exact (s.progByte_setProgByte _ _ _).trans (if_neg ha)
  · exact ⟨_, hexec.trans (State.storeProgByte_next.mpr ⟨hpresent, .inl ⟨hw, rfl⟩⟩), rfl,
      (SameBut.refl s []).advance 2⟩
  · exact hexec.trans (State.storeProgByte_refuse hpresent hw _ _)
  · exact hexec.trans (State.storeProgByte_absent habsent _ _)

end Sys2Proof.Machine
end

section
/-! O41, O42, O43: POP and PUSH. -/

namespace Sys2Proof.Machine

variable {s : State}

/-- The SP register as the operand of POP or PUSH (93_implementation_defined.md U8). -/
theorem guarded_spOperand {a : Byte} (h : a = s.dev.spAddr) (stops : List (Option Refusal)) (k : Result) :
    guarded (stopIf (a == s.dev.spAddr) .spOperand :: stops) k = .refused .spOperand := by
  simp [stopIf, h]

/-! ## POP -/

/-- Why POP may not read its stack cell or write its destination, but for the SP register as the destination. -/
def Loc.popStops (dst : Loc) (s : State) : List (Option Refusal) :=
  [s.stackStop s.sp, dst.pointerStop s, s.accessStop (dst.address s)]

theorem popTo_eq (dst : Loc) (s : State) :
    popTo dst s = guarded (dst.popStops s) (guarded [stopIf (dst.address s == s.dev.spAddr) .spOperand]
      (.next (((s.put (dst.address s) (s.reg s.sp)).setSp (s.sp + 1)).advance 2))) :=
  guarded_append (dst.popStops s) _ _

theorem Loc.popStops_noStop (dst : Loc) (s : State) :
    NoStop (dst.popStops s) ↔ s.stackCell s.sp ∧ dst.accessible s := by
  rw [Loc.popStops, noStop_cons, State.stackStop_none, Loc.accessStops_noStop]

theorem Loc.popStops_some {dst : Loc} {r : Refusal} (h : some r ∈ dst.popStops s) :
    r ∈ [Refusal.stackOnSp, .absentRegister, .deviceRegister] := by
  rcases List.mem_cons.mp h with h | h
  · simpa using State.stackStop_some h.symm
  · rcases Loc.accessStops_some h with rfl | rfl <;> simp

theorem popTo_of_usable {dst : Loc} (hcell : s.stackCell s.sp) (hdst : dst.accessible s)
    (hne : dst.address s ≠ s.dev.spAddr) :
    popTo dst s = .next (((s.put (dst.address s) (s.reg s.sp)).setSp (s.sp + 1)).advance 2) := by
  rw [popTo_eq, guarded_of_noStop ((dst.popStops_noStop s).mpr ⟨hcell, hdst⟩), guarded_of_noStop (by simpa using hne)]

theorem popTo_spOperand {dst : Loc} (hcell : s.stackCell s.sp) (hdst : dst.accessible s)
    (h : dst.address s = s.dev.spAddr) : popTo dst s = .refused .spOperand := by
  rw [popTo_eq, guarded_of_noStop ((dst.popStops_noStop s).mpr ⟨hcell, hdst⟩), guarded_spOperand h]

/-- Settles O41: POP is a plain write of the byte at SP, and SP is set after it. -/
theorem popResult : Obligations.PopResult := by
  refine ⟨fun f s hcell hdst => ⟨fun hne => ?_, fun h => ?_⟩, fun f s h => ?_, fun b => ⟨rfl, rfl⟩⟩
  · have hpop := (exec_popInstr s f).trans (popTo_of_usable hcell hdst hne)
    refine ⟨_, hpop, by simp, ?_, fun hd => ?_, fun hd => ?_⟩
    · simp [State.sp]
    · rw [State.put_of_ordinary hd]
      exact ⟨by simp [hne], (((SameBut.refl s _).setReg (by simp) _).setSp (by simp) _).advance 2⟩
    · rw [State.put_of_device hd]
      exact ((SameBut.refl _ _).setSp (by simp) _).advance 2
  · exact (exec_popInstr s f).trans (popTo_spOperand hcell hdst h)
  · rw [Refuses, exec_popInstr, popTo_eq]
    exact guarded_refuses (fun _ => Loc.popStops_some) (mt (f.loc.popStops_noStop s).mp h) _

/-! ## PUSH -/

/-- Why PUSH is refused: its operand may not be read or is the SP register, or its stack cell may not be written. -/
def Loc.pushStops (src : Loc) (s : State) : List (Option Refusal) :=
  [src.pointerStop s, s.accessStop (src.address s), stopIf (src.address s == s.dev.spAddr) .spOperand,
    s.stackStop (s.sp - 1)]

theorem pushFrom_eq (src : Loc) (s : State) :
    pushFrom src s = guarded (src.pushStops s)
      (.next (((s.setSp (s.sp - 1)).setReg (s.sp - 1) (s.plain 0 (src.address s))).advance 2)) := rfl

theorem Loc.pushStops_noStop (src : Loc) (s : State) :
    NoStop (src.pushStops s) ↔ src.accessible s ∧ src.address s ≠ s.dev.spAddr ∧ s.stackCell (s.sp - 1) := by
  simp [Loc.pushStops, Loc.pointerStop_none, State.stackStop_none, and_assoc]

theorem Loc.pushStops_some {src : Loc} {r : Refusal} (h : some r ∈ src.pushStops s) :
    r ∈ [Refusal.stackOnSp, .absentRegister, .deviceRegister, .spOperand] := by
  simp only [Loc.pushStops, List.mem_cons, List.not_mem_nil, or_false] at h
  rcases h with h | h | h | h
  · rcases Loc.pointerStop_some h.symm with rfl | rfl <;> simp
  · obtain rfl := State.accessStop_some h.symm
    simp
  · obtain rfl := stopIf_some h.symm
    simp
  · rcases State.stackStop_some h.symm with rfl | rfl | rfl <;> simp

theorem pushFrom_of_usable {src : Loc} (hcell : s.stackCell (s.sp - 1)) (hsrc : src.accessible s)
    (hne : src.address s ≠ s.dev.spAddr) :
    pushFrom src s =
      .next (((s.setSp (s.sp - 1)).setReg (s.sp - 1) (s.plain 0 (src.address s))).advance 2) := by
  rw [pushFrom_eq, guarded_of_noStop ((src.pushStops_noStop s).mpr ⟨hsrc, hne, hcell⟩)]

theorem pushFrom_spOperand {src : Loc} (hsrc : src.accessible s) (h : src.address s = s.dev.spAddr) :
    pushFrom src s = .refused .spOperand := by
  have haccess : NoStop [src.pointerStop s, s.accessStop (src.address s)] := (src.accessStops_noStop s).mpr hsrc
  exact (guarded_append_noStop haccess _ _).trans (guarded_spOperand h _ _)

/-- Settles O42: PUSH sets SP and then the cell below the old SP, which is not the SP register. -/
theorem pushResult : Obligations.PushResult := by
  refine ⟨fun f s hcell hsrc => ⟨fun hne => ?_, fun h => ?_⟩, fun f s h => ?_, fun b => ⟨rfl, rfl⟩⟩
  · have hpush := (exec_pushInstr s f).trans (pushFrom_of_usable hcell hsrc hne)
    obtain ⟨hsp, -⟩ := hcell
    refine ⟨_, hpush, rfl, ?_, by simp, ?_⟩
    · exact (State.reg_setReg_other _ _ hsp.symm).trans (s.sp_setSp _)
    · exact (((SameBut.refl s _).setSp (by simp) _).setReg (by simp) _).advance 2
  · exact (exec_pushInstr s f).trans (pushFrom_spOperand hsrc h)
  · rw [Refuses, exec_pushInstr, pushFrom_eq]
    refine guarded_refuses (fun _ => Loc.pushStops_some) (fun hstops => h ?_) _
    obtain ⟨hsrc, -, hcell⟩ := (f.loc.pushStops_noStop s).mp hstops
    exact ⟨hcell, hsrc⟩

/-! ## POP after PUSH -/

/-- The E escape depends on RP alone (30_encoding.md R96). -/
theorem State.reg8_of_rp {t : State} (h : t.rp = s.rp) (b : Byte) : t.reg8 b = s.reg8 b := by
  simp only [State.reg8, State.wr, h]

/-- Settles O43 from O42 and O41: PUSH leaves RP alone, so POP names the same register. -/
theorem pushThenPop : Obligations.PushThenPop := by
  intro b s hdev hreg hne hcell hrp
  obtain ⟨-, hspAddr, -⟩ := hdev
  have hrpSp : rpAddr ≠ s.dev.spAddr := fun h => hspAddr (by simp [← h])
  obtain ⟨t, hpush, hpcT, hspT, hcellT, hsameT⟩ := (pushResult.1 (.R b) s hcell ⟨trivial, hreg.1⟩).1 hne
  have hdevT : t.dev = s.dev := hsameT.dev
  have hrpT : t.rp = s.rp := hsameT.1 rpAddr (by simpa only [List.mem_pair, not_or] using ⟨hrp.symm, hrpSp⟩)
  have hdst : (OneForm.R b).loc.address t = s.reg8 b := State.reg8_of_rp hrpT b
  obtain ⟨u, hpop, hpcU, hspU, hordinary, -⟩ :=
    (popResult.1 (.R b) t (by rwa [State.stackCell, State.ordinary, hdevT, hspT])
      ⟨trivial, by rw [hdst, hdevT]; exact hreg.1⟩).1 (by rwa [hdst, hdevT])
  rw [hdst, hdevT, hspT, hcellT] at hordinary
  obtain ⟨hvalU, hsameU⟩ := hordinary hreg.2
  have hregU : u.reg (s.reg8 b) = s.reg (s.reg8 b) := hvalU.trans (State.plain_of_ordinary hreg.2 0)
  have hspBack : u.sp = s.sp := by rw [hspU, hspT, BitVec.sub_add_cancel]
  have hsame : SameBut s u ([s.sp - 1, s.dev.spAddr] ++ [s.reg8 b, s.dev.spAddr]) := hsameT.trans hsameU
  have hspReg : u.reg s.dev.spAddr = s.sp := hsame.dev ▸ hspBack
  refine ⟨t, u, hpush, hpop, hregU, ?_, hspBack, hsame.of_restored fun a ha hother => ?_⟩
  · rw [hpcU, hpcT, BitVec.add_assoc]
    rfl
  · simp only [List.mem_append, List.mem_pair] at ha
    rcases ha with (rfl | rfl) | rfl | rfl
    · exact absurd List.mem_cons_self hother
    · exact hspReg
    · exact hregU
    · exact hspReg

end Sys2Proof.Machine
end

section
/-! SUPPORT. What the shapes of instruction of Sys2Proof/Machine/Operands.lean answer on operands that may be used. -/

namespace Sys2Proof.Machine

variable {s t : State}

theorem SameBut.updateFlags {written : List Byte} (h : SameBut s t written) (hflags : flagsAddr ∈ written)
    (u : FlagUpdate) : SameBut s (t.updateFlags u) written := h.setReg hflags _

theorem SameBut.setPair {written : List Byte} (h : SameBut s t written) {a : Byte} (hhigh : a ∈ written)
    (hlow : a + 1 ∈ written) (v : Word) : SameBut s (t.setPair a v) written := (h.setReg hhigh _).setReg hlow _

/-- The effect of rewriting `x[d]` and the flags: `d` holds `res`, FLAGS is updated by `u`, pc is past the instruction,
and nothing else differs. -/
structure Rewrote (s t : State) (d res : Byte) (u : FlagUpdate) (length : Word) : Prop where
  pc : t.pc = s.pc + length
  value : t.reg d = res
  flags : t.flags = u.apply s.flags
  frame : SameBut s t [d, flagsAddr]

/-- With FLAGS not the destination, the update of the flags and the store do not meet. -/
theorem rewrote_setReg_updateFlags (s : State) {d : Byte} (hd : d ≠ flagsAddr) (res : Byte) (u : FlagUpdate)
    (length : Word) : Rewrote s (((s.setReg d res).updateFlags u).advance length) d res u length where
  pc := rfl
  value := by simp [hd]
  flags := by simp [hd.symm]
  frame := (((SameBut.refl s _).setReg (by simp) _).updateFlags (by simp) _).advance length

/-- The two-operand group: where it answers a next state, the operands could be used and the destination and the flags
are those of the operation. -/
theorem rewrote_of_combine {f : Byte → Byte → Byte × FlagUpdate} {dst : Loc} {src : Src} {length : Word}
    (h : combine f dst src length s = .next t) :
    Rewrote s t (dst.address s) (f (s.reg (dst.address s)) (src.value s)).1
      (f (s.reg (dst.address s)) (src.value s)).2 length := by
  obtain ⟨hstop, rfl⟩ := combine_next.mp h
  obtain ⟨-, hmodify⟩ := (noStop_append _ _).mp hstop
  obtain ⟨-, -, hflags⟩ := (dst.modifyStops_noStop s).mp hmodify
  exact rewrote_setReg_updateFlags s hflags _ _ _

theorem combine_of_usable {dst : Loc} {src : Src} (hsrc : src.readable s) (hdst : dst.rewritable s)
    (f : Byte → Byte → Byte × FlagUpdate) (length : Word) :
    ∃ t, combine f dst src length s = .next t ∧
      Rewrote s t (dst.address s) (f (s.reg (dst.address s)) (src.value s)).1
        (f (s.reg (dst.address s)) (src.value s)).2 length := by
  obtain ⟨t, ht⟩ := (stopsUnless_combine f dst src length).1.mpr ⟨hsrc, hdst⟩
  exact ⟨t, ht, rewrote_of_combine ht⟩

theorem rewrote_of_modify {f : Byte → Byte × FlagUpdate} {dst : Loc} {length : Word}
    (h : modify f dst length s = .next t) :
    Rewrote s t (dst.address s) (f (s.reg (dst.address s))).1 (f (s.reg (dst.address s))).2 length := by
  obtain ⟨hstop, rfl⟩ := modify_next.mp h
  obtain ⟨-, -, hflags⟩ := (dst.modifyStops_noStop s).mp hstop
  exact rewrote_setReg_updateFlags s hflags _ _ _

theorem modify_of_rewritable {dst : Loc} (hdst : dst.rewritable s) (f : Byte → Byte × FlagUpdate) (length : Word) :
    ∃ t, modify f dst length s = .next t ∧
      Rewrote s t (dst.address s) (f (s.reg (dst.address s))).1 (f (s.reg (dst.address s))).2 length := by
  obtain ⟨t, ht⟩ := (stopsUnless_modify f dst length).1.mpr hdst
  exact ⟨t, ht, rewrote_of_modify ht⟩

theorem testOperands_of_usable {dst : Loc} {src : Src} (hsrc : src.readable s) (hdst : dst.accessible s)
    (f : Byte → Byte → FlagUpdate) (length : Word) :
    testOperands f dst src length s =
      .next ((s.updateFlags (f (s.plain 1 (dst.address s)) (src.value s))).advance length) :=
  testOperands_next.mpr ⟨(load_noStop dst src s).mpr ⟨hsrc, hdst⟩, rfl⟩

/-- A test stops where a load does, and for the same reasons (10_state.md R24, 20_memory.md R69). -/
theorem testOperands_refuses {dst : Loc} {src : Src} (h : ¬(src.readable s ∧ dst.accessible s))
    (f : Byte → Byte → FlagUpdate) (length : Word) :
    ∃ r ∈ [Refusal.absentRegister, .deviceRegister], testOperands f dst src length s = .refused r := by
  refine guarded_refuses (fun r hr => ?_) (mt (load_noStop dst src s).mp h) _
  have hr : r = .absentRegister ∨ r = .deviceRegister :=
    (List.mem_append.mp hr).elim Src.stops_some Loc.accessStops_some
  simpa using hr

/-! ## FLAGS after an update -/

theorem flagC_apply (u : FlagUpdate) (f : Byte) : flagC (u.apply f) = u.c.getD (flagC f) := by
  simp [FlagUpdate.apply, packFlags_bits]
theorem flagZ_apply (u : FlagUpdate) (f : Byte) : flagZ (u.apply f) = u.z.getD (flagZ f) := by
  simp [FlagUpdate.apply, packFlags_bits]
theorem flagS_apply (u : FlagUpdate) (f : Byte) : flagS (u.apply f) = u.s.getD (flagS f) := by
  simp [FlagUpdate.apply, packFlags_bits]
theorem flagV_apply (u : FlagUpdate) (f : Byte) : flagV (u.apply f) = u.v.getD (flagV f) := by
  simp [FlagUpdate.apply, packFlags_bits]
theorem flagD_apply (u : FlagUpdate) (f : Byte) : flagD (u.apply f) = u.d.getD (flagD f) := by
  simp [FlagUpdate.apply, packFlags_bits]
theorem flagH_apply (u : FlagUpdate) (f : Byte) : flagH (u.apply f) = u.h.getD (flagH f) := by
  simp [FlagUpdate.apply, packFlags_bits]

theorem exec_cpInstr (f : TwoForm) (s : State) :
    exec (cpInstr f) s = testOperands cpFlags f.dst f.src f.length s := by
  cases f <;> rfl

end Sys2Proof.Machine
end

section
/-! O21, O22, O23: addition, subtraction and comparison. -/

namespace Sys2Proof.Machine

/-! ## Signed bytes -/

/-- Bit 7 of a byte is its sign. -/
theorem getLsbD_seven (x : Byte) : x.getLsbD 7 = decide (128 ≤ x.toNat) :=
  x.msb_eq_getLsbD_last.symm.trans (BitVec.msb_eq_decide x)

theorem byte_toInt (x : Byte) : x.toInt = if 128 ≤ x.toNat then (x.toNat : Int) - 256 else x.toNat := by
  rw [BitVec.toInt_eq_toNat_cond]
  split <;> split <;> omega

theorem overflow8_iff (x : Int) : overflow8 x = true ↔ x > 127 ∨ x < -128 := by simp [overflow8]

/-! ## ADD and ADC -/

theorem addOp_fst (cin : Bool) (a b : Byte) : (addOp cin a b).1 = a + b + BitVec.ofNat 8 cin.toNat := by
  simp [addOp, BitVec.ofNat_add]

/-- A signed sum overflows exactly when both operands have a sign that the result does not have. -/
theorem overflow8_add (cin : Bool) (a b : Byte) :
    overflow8 (a.toInt + b.toInt + cin.toNat) =
      ((a ^^^ (a + b + BitVec.ofNat 8 cin.toNat)) &&& (b ^^^ (a + b + BitVec.ofNat 8 cin.toNat))).getLsbD 7 := by
  have hres : (a + b + BitVec.ofNat 8 cin.toNat).toNat = (a.toNat + b.toNat + cin.toNat) % 256 := by simp
  have hcin : cin.toNat ≤ 1 := cin.toNat_le
  have ha := a.isLt
  have hb := b.isLt
  rw [Bool.eq_iff_iff, overflow8_iff, BitVec.getLsbD_and, BitVec.getLsbD_xor, BitVec.getLsbD_xor, getLsbD_seven,
    getLsbD_seven, getLsbD_seven, hres, byte_toInt, byte_toInt, Bool.and_eq_true, bne_iff_ne, bne_iff_ne, Ne, Ne,
    decide_eq_decide, decide_eq_decide]
  split <;> split <;> omega

theorem addOp_flags (cin : Bool) (a b f : Byte) :
    let res := a + b + BitVec.ofNat 8 cin.toNat
    (addOp cin a b).2.apply f =
      packFlags (decide (a.toNat + b.toNat + cin.toNat > 255)) (decide (res = 0#8)) (res.getLsbD 7)
        (((a ^^^ res) &&& (b ^^^ res)).getLsbD 7) false (decide (a.toNat % 16 + b.toNat % 16 + cin.toNat > 15))
        (flagWdt f) (flagSmr f) := by
  dsimp only
  rw [← overflow8_add, ← addOp_fst]
  rfl

/-- Settles O21: both are one operation of the two-operand shape, with `cin` 0 or C. -/
theorem addAndAdc : Obligations.AddAndAdc := by
  intro f s hsrc hdst d a b after
  have hadd (i : Instr) (cin : Bool) (hi : exec i s = combine (addOp cin) f.dst f.src f.length s) :
      ∃ t, exec i s = .next t ∧ after cin t := by
    obtain ⟨t, ht, heffect⟩ := combine_of_usable hsrc hdst (addOp cin) f.length
    refine ⟨t, hi.trans ht, heffect.pc, heffect.value.trans (addOp_fst cin a b),
      heffect.flags.trans (addOp_flags cin a b s.flags), ?_, heffect.frame⟩
    rw [heffect.flags, flagV_apply]
    exact overflow8_iff _
  exact ⟨hadd _ _ (exec_addInstr s f), hadd _ _ (exec_adcInstr s f),
    by cases f <;> simp [addInstr, encode, TwoForm.column], by cases f <;> simp [adcInstr, encode, TwoForm.column]⟩

/-! ## SUB and SBC -/

/-- A byte difference with borrow: modulo 256, taking 1 away is adding 255. -/
theorem toNat_sub_borrow (cin : Bool) (a b : Byte) :
    (a - b - BitVec.ofNat 8 cin.toNat).toNat = (a.toNat + (256 - b.toNat) + (256 - cin.toNat)) % 256 := by
  have hcin : cin.toNat ≤ 1 := cin.toNat_le
  rw [BitVec.toNat_sub, BitVec.toNat_sub, BitVec.toNat_ofNat]
  omega

theorem subOp_fst (cin : Bool) (a b : Byte) : (subOp cin a b).1 = a - b - BitVec.ofNat 8 cin.toNat := by
  have hcin : cin.toNat ≤ 1 := cin.toNat_le
  have hb := b.isLt
  apply BitVec.eq_of_toNat_eq
  rw [toNat_sub_borrow, subOp, BitVec.toNat_ofInt]
  omega

/-- A signed difference overflows exactly when the operands' signs differ and the result has the second one's. -/
theorem overflow8_sub (cin : Bool) (a b : Byte) :
    overflow8 (a.toInt - b.toInt - cin.toNat) =
      ((a ^^^ b) &&& (a ^^^ (a - b - BitVec.ofNat 8 cin.toNat))).getLsbD 7 := by
  have hcin : cin.toNat ≤ 1 := cin.toNat_le
  have ha := a.isLt
  have hb := b.isLt
  rw [Bool.eq_iff_iff, overflow8_iff, BitVec.getLsbD_and, BitVec.getLsbD_xor, BitVec.getLsbD_xor, getLsbD_seven,
    getLsbD_seven, getLsbD_seven, toNat_sub_borrow, byte_toInt, byte_toInt, Bool.and_eq_true, bne_iff_ne, bne_iff_ne,
    Ne, Ne, decide_eq_decide, decide_eq_decide]
  split <;> split <;> omega

theorem subOp_flags (cin : Bool) (a b f : Byte) :
    let res := a - b - BitVec.ofNat 8 cin.toNat
    (subOp cin a b).2.apply f =
      packFlags (decide (a.toNat < b.toNat + cin.toNat)) (decide (res = 0#8)) (res.getLsbD 7)
        (((a ^^^ b) &&& (a ^^^ res)).getLsbD 7) true (decide (a.toNat % 16 < b.toNat % 16 + cin.toNat))
        (flagWdt f) (flagSmr f) := by
  dsimp only
  rw [← overflow8_sub, ← subOp_fst]
  rfl

/-- Settles O22: both are one operation of the two-operand shape, with `cin` 0 or C. -/
theorem subAndSbc : Obligations.SubAndSbc := by
  intro f s hsrc hdst d a b after
  have hsub (i : Instr) (cin : Bool) (hi : exec i s = combine (subOp cin) f.dst f.src f.length s) :
      ∃ t, exec i s = .next t ∧ after cin t := by
    obtain ⟨t, ht, heffect⟩ := combine_of_usable hsrc hdst (subOp cin) f.length
    refine ⟨t, hi.trans ht, heffect.pc, heffect.value.trans (subOp_fst cin a b),
      heffect.flags.trans (subOp_flags cin a b s.flags), ?_, heffect.frame⟩
    rw [heffect.flags, flagV_apply]
    exact overflow8_iff _
  exact ⟨hsub _ _ (exec_subInstr s f), hsub _ _ (exec_sbcInstr s f),
    by cases f <;> simp [subInstr, encode, TwoForm.column], by cases f <;> simp [sbcInstr, encode, TwoForm.column]⟩

/-! ## CP -/

/-- The four flags that CP writes, from the operands and their difference (41_arithmetic.md R173). -/
theorem cpFlags_eq (a b : Byte) :
    cpFlags a b =
      { c := some (decide (a.toNat < b.toNat))
        z := some (decide (a - b = 0#8))
        s := some ((a - b).getLsbD 7)
        v := some (decide (a.toInt - b.toInt > 127 ∨ a.toInt - b.toInt < -128)) } := by
  have hres : (subOp false a b).1 = a - b := (subOp_fst false a b).trans (BitVec.sub_zero _)
  have hv : overflow8 (a.toInt - b.toInt - 0) = decide (a.toInt - b.toInt > 127 ∨ a.toInt - b.toInt < -128) := by
    rw [Int.sub_zero, Bool.eq_iff_iff, overflow8_iff, decide_eq_true_iff]
  rw [← hv, ← hres]
  rfl

/-- After CP the condition codes for equal, unsigned below and signed below are the relations they are named for
(30_encoding.md R110); the signed one holds because S is the sign of the difference but where V says it overflowed. -/
theorem condHolds_cpFlags (a b f : Byte) :
    (condHolds .z ((cpFlags a b).apply f) = true ↔ a = b) ∧
      (condHolds .c ((cpFlags a b).apply f) = true ↔ a.toNat < b.toNat) ∧
      (condHolds .lt ((cpFlags a b).apply f) = true ↔ a.toInt < b.toInt) := by
  have hzero : a - b = 0#8 ↔ a = b := sub_eq_zero
  have ha := a.isLt
  have hb := b.isLt
  simp only [condHolds, flagZ_apply, flagC_apply, flagS_apply, flagV_apply, cpFlags_eq, Option.getD_some,
    decide_eq_true_iff, hzero, true_and]
  rw [getLsbD_seven, BitVec.toNat_sub, bne_iff_ne, Ne, decide_eq_decide, byte_toInt, byte_toInt]
  split <;> split <;> omega

theorem condHolds_ule (f : Byte) : condHolds .ule f = (condHolds .c f || condHolds .z f) := rfl
theorem condHolds_le (f : Byte) : condHolds .le f = (condHolds .z f || condHolds .lt f) := rfl

theorem condHolds_negate_iff {cc : Cond} {f : Byte} {p : Prop} (h : condHolds cc f = true ↔ p) :
    condHolds cc.negate f = true ↔ ¬p := by
  rw [condHolds_negate, Bool.not_eq_true', ← Bool.not_eq_true, h]

/-- Settles O23: a test with `cpFlags`; three condition codes are read off the flags, the others come from those by
disjunction and negation. -/
theorem compareAndConditions : Obligations.CompareAndConditions := by
  refine ⟨fun f s hsrc hdst => ?_, fun f s h => ?_⟩
  · intro a b res
    refine ⟨_, (exec_cpInstr f s).trans (testOperands_of_usable hsrc hdst cpFlags f.length), rfl,
      ((SameBut.refl s _).updateFlags (by simp) _).advance _, by cases f <;> simp [cpInstr, encode, TwoForm.column], ?_⟩
    rw [State.flags_advance, State.flags_updateFlags]
    change (cpFlags a b).apply s.flags = _ ∧ _
    obtain ⟨hz, hc, hlt⟩ := condHolds_cpFlags a b s.flags
    have hule : condHolds .ule ((cpFlags a b).apply s.flags) = true ↔ a.toNat ≤ b.toNat := by
      rw [condHolds_ule, Bool.or_eq_true, hc, hz, ← BitVec.toNat_inj, Nat.le_iff_lt_or_eq]
    have hle : condHolds .le ((cpFlags a b).apply s.flags) = true ↔ a.toInt ≤ b.toInt := by
      rw [condHolds_le, Bool.or_eq_true, hlt, hz, ← BitVec.toInt_inj, Int.le_iff_eq_or_lt]
    exact ⟨by rw [cpFlags_eq]; rfl, hz, condHolds_negate_iff hz, hc, (condHolds_negate_iff hc).trans Nat.not_lt,
      (condHolds_negate_iff hule).trans Nat.not_le, hule, hlt, (condHolds_negate_iff hlt).trans Int.not_lt,
      (condHolds_negate_iff hle).trans Int.not_le, hle⟩
  · rw [Refuses, exec_cpInstr]
    exact testOperands_refuses h cpFlags f.length

end Sys2Proof.Machine
end

section
/-! O24, O25, O26: decimal adjust. -/

namespace Sys2Proof.Machine

variable {s t u : State}

/-! ## The algorithm of 41_arithmetic.md R174 -/

theorem daFamily_after_add (v : Byte) (c h : Bool) :
    let low := if h = true ∨ v.toNat % 16 > 9 then 0x06 else 0
    let high := if c = true ∨ v.toNat > 0x99 then 0x60 else 0
    daFamily v c h false = (BitVec.ofNat 8 (v.toNat + low + high), decide (high = 0x60)) := by
  have hcarry : (c || decide (v.toNat > 0x99)) = decide (c = true ∨ v.toNat > 0x99) := by simp
  simp only [daFamily, hcarry, Bool.or_eq_true, decide_eq_true_iff, Bool.false_eq_true, if_false]
  by_cases hlow : h = true ∨ v.toNat % 16 > 9 <;> by_cases hhigh : c = true ∨ v.toNat > 0x99 <;>
    simp only [hlow, hhigh, if_true, if_false] <;> simp [BitVec.ofNat_add]

theorem daFamily_after_sub (v : Byte) (c h : Bool) :
    daFamily v c h true =
      (BitVec.ofNat 8 (v.toNat + ((if h = true then 0xFA else 0) + (if c = true then 0xA0 else 0))), c) := by
  cases h <;> cases c <;> simp [daFamily, BitVec.ofNat_add, BitVec.add_assoc]

/-- Settles O25, over all bytes, row by row. -/
theorem decimalAdjustTable : Obligations.DecimalAdjustTable := by
  unfold Obligations.DecimalAdjustTable
  dsimp only
  refine ⟨?_, ?_, ?_, ?_, ?_, ?_, ?_, ?_, ?_, ?_, ?_, ?_, ?_⟩ <;> decide

/-! ## DA -/

/-- What DA does with the result and the C that `DA_FN` gives. -/
theorem daOp_flags {dev : Device} {f v : Byte} {r : Byte × Bool}
    (h : daFn dev v (flagC f) (flagH f) (flagD f) = r) :
    (daOp dev f v).1 = r.1 ∧ (daOp dev f v).2.apply f =
      packFlags r.2 (decide (r.1 = 0#8)) (r.1.getLsbD 7) (flagV f) (flagD f) (flagH f) (flagWdt f) (flagSmr f) := by
  subst h
  exact ⟨rfl, rfl⟩

theorem daFn_free {dev : Device} (h : dev.daFn = .free) (v : Byte) (c half d : Bool) :
    daFn dev v c half d = Config.daFn v c half d := by rw [daFn, h]

theorem daFn_family {dev : Device} (h : dev.daFn = .family) (v : Byte) (c half d : Bool) :
    daFn dev v c half d = daFamily v c half d := by rw [daFn, h]

/-- Settles O24: DA is `daOp`, which asks `DA_FN`. -/
theorem decimalAdjust : Obligations.DecimalAdjust := by
  intro f s hdst d v c h adjusted
  obtain ⟨t, ht, heffect⟩ := modify_of_rewritable hdst (daOp s.dev s.flags) 2
  have hadjusted {r : Byte × Bool} (hr : daFn s.dev v c h (flagD s.flags) = r) : adjusted r t :=
    ⟨heffect.value.trans (daOp_flags hr).1, heffect.flags.trans (daOp_flags hr).2⟩
  refine ⟨t, (exec_daInstr s f).trans ht, heffect.pc, heffect.frame,
    by cases f <;> simp [daInstr, encode, OneForm.column], fun hfree => ?_, fun hfamily hadd => ?_,
    fun hfamily hsub => ?_⟩
  · exact hadjusted (daFn_free hfree v c h _)
  · exact hadjusted ((daFn_family hfamily v c h _).trans (hadd ▸ daFamily_after_add v c h))
  · exact hadjusted ((daFn_family hfamily v c h _).trans (hsub ▸ daFamily_after_sub v c h))

/-! ## Decimal arithmetic -/

/-- Packed BCD: both digits are decimal (10_state.md R36). -/
def IsBcd (x : Byte) : Prop := x.toNat / 16 ≤ 9 ∧ x.toNat % 16 ≤ 9

/-- The number that two packed digits stand for. -/
def decimalValue (x : Byte) : Nat := 10 * (x.toNat / 16) + x.toNat % 16

theorem addOp_toNat (cin : Bool) (a b : Byte) :
    (addOp cin a b).1.toNat = (a.toNat + b.toNat + cin.toNat) % 256 := BitVec.toNat_ofNat _ _

/-- Adding BCD bytes and adjusting is decimal: 06H is added exactly when the sum of the low digits (and `cin`) is 10 or
more, and 60H exactly when that of the high digits, with the decimal carry from the low ones, is. -/
theorem daFamily_addOp {a b : Byte} (ha : IsBcd a) (hb : IsBcd b) (cin : Bool) {r : Byte × Bool}
    (hr : r = daFamily (addOp cin a b).1 (decide (a.toNat + b.toNat + cin.toNat > 255))
      (decide (a.toNat % 16 + b.toNat % 16 + cin.toNat > 15)) false) :
    IsBcd r.1 ∧ decimalValue r.1 + 100 * r.2.toNat = decimalValue a + decimalValue b + cin.toNat := by
  obtain ⟨hahi, halo⟩ := ha
  obtain ⟨hbhi, hblo⟩ := hb
  have hcin : cin.toNat ≤ 1 := cin.toNat_le
  have hlow : decide (a.toNat % 16 + b.toNat % 16 + cin.toNat > 15) = true ∨ (addOp cin a b).1.toNat % 16 > 9 ↔
      10 ≤ a.toNat % 16 + b.toNat % 16 + cin.toNat := by
    rw [addOp_toNat, decide_eq_true_iff]
    omega
  have hhigh : decide (a.toNat + b.toNat + cin.toNat > 255) = true ∨ (addOp cin a b).1.toNat > 0x99 ↔
      10 ≤ a.toNat / 16 + b.toNat / 16 + (a.toNat % 16 + b.toNat % 16 + cin.toNat) / 10 := by
    rw [addOp_toNat, decide_eq_true_iff]
    omega
  rw [hr, daFamily_after_add]
  simp only [hlow, hhigh]
  simp only [addOp_toNat, IsBcd, decimalValue, BitVec.toNat_ofNat]
  split <;> split <;> simp only [decide_true, decide_false, Bool.toNat_true, Bool.toNat_false, Nat.reduceEqDiff] <;>
    omega

/-- Subtracting BCD bytes and adjusting is decimal: FAH takes 6 from a low digit that borrowed 16, where decimal borrows
10, and A0H takes 6 from a high digit that did. -/
theorem daFamily_subOp {a b : Byte} (ha : IsBcd a) (hb : IsBcd b) (cin : Bool) {r : Byte × Bool}
    (hr : r = daFamily (subOp cin a b).1 (decide (a.toNat < b.toNat + cin.toNat))
      (decide (a.toNat % 16 < b.toNat % 16 + cin.toNat)) true) :
    IsBcd r.1 ∧ decimalValue r.1 + decimalValue b + cin.toNat = decimalValue a + 100 * r.2.toNat := by
  obtain ⟨hahi, halo⟩ := ha
  obtain ⟨hbhi, hblo⟩ := hb
  have hcin : cin.toNat ≤ 1 := cin.toNat_le
  rw [hr, daFamily_after_sub, subOp_fst, toNat_sub_borrow]
  simp only [IsBcd, decimalValue, BitVec.toNat_ofNat, decide_eq_true_iff]
  by_cases hlow : a.toNat % 16 < b.toNat % 16 + cin.toNat <;> by_cases hhigh : a.toNat < b.toNat + cin.toNat <;>
    simp only [hlow, hhigh, if_true, if_false, decide_true, decide_false, Bool.toNat_true, Bool.toNat_false] <;> omega

/-- DA after an operation of the two-operand group, on the register that it wrote: the flags it looks at are those that
the operation sets, or leaves. -/
theorem da_after_combine {f : Byte → Byte → Byte × FlagUpdate} {dst : Loc} {src : Src} {length : Word} {g : OneForm}
    (hfamily : s.dev.daFn = .family) (hop : combine f dst src length s = .next t)
    (hsame : g.loc.address t = dst.address s) (hda : exec (daInstr g) t = .next u) :
    let r := f (s.reg (dst.address s)) (src.value s)
    (u.reg (dst.address s), flagC u.flags) =
      daFamily r.1 (r.2.c.getD (flagC s.flags)) (r.2.h.getD (flagH s.flags)) (r.2.d.getD (flagD s.flags)) := by
  have hfirst := rewrote_of_combine hop
  have hsecond := rewrote_of_modify ((exec_daInstr t g).symm.trans hda)
  rw [hsame, hfirst.value, hfirst.flags, hfirst.frame.dev] at hsecond
  intro r
  rw [← daFn_family hfamily, hsecond.value, hsecond.flags, ← flagC_apply, ← flagH_apply, ← flagD_apply, flagC_apply]
  rfl

/-- Settles O26: DA after each of the four is `daFamily` of its result and flags, which is decimal. -/
theorem decimalArithmetic : Obligations.DecimalArithmetic := by
  intro f g s t d a b isBcd decimal cin hfamily ha hb _ hsame u hda carry
  have hadd {cin : Bool} (ht : combine (addOp cin) f.dst f.src f.length s = .next t) :
      isBcd (u.reg d) ∧ decimal (u.reg d) + 100 * carry = decimal a + decimal b + cin.toNat :=
    daFamily_addOp ha hb cin (da_after_combine hfamily ht hsame hda)
  have hsub {cin : Bool} (ht : combine (subOp cin) f.dst f.src f.length s = .next t) :
      isBcd (u.reg d) ∧ decimal (u.reg d) + decimal b + cin.toNat = decimal a + 100 * carry :=
    daFamily_subOp ha hb cin (da_after_combine hfamily ht hsame hda)
  rw [exec_addInstr, exec_adcInstr, exec_subInstr, exec_sbcInstr]
  exact ⟨hadd, hadd, hsub, hsub⟩

end Sys2Proof.Machine
end

section
/-! O3, O27, O28: sample words, INC and DEC, INCW and DECW. -/

namespace Sys2Proof.Machine

/-- Settles O3, by running the decoder on the ten words. -/
theorem sampleWordsDecode : Obligations.SampleWordsDecode := by
  exact ⟨rfl, rfl, rfl, rfl, rfl, rfl, rfl, rfl, rfl, rfl⟩

/-! ## INC and DEC -/

/-- Settles O27: each form is one operation of the one-operand shape. -/
theorem incAndDec : Obligations.IncAndDec := by
  refine ⟨fun f s hdst => ?_, fun f s hdst => ?_, fun n b => ⟨rfl, rfl, rfl⟩⟩
  · obtain ⟨t, ht, heffect⟩ := modify_of_rewritable hdst incOp f.length
    exact ⟨t, (exec_incInstr s f).trans ht, heffect.pc, heffect.value, heffect.flags, heffect.frame⟩
  · obtain ⟨t, ht, heffect⟩ := modify_of_rewritable hdst decOp 2
    exact ⟨t, (exec_decInstr s f).trans ht, heffect.pc, heffect.value, heffect.flags, heffect.frame,
      by cases f <;> simp [decInstr, encode, OneForm.column]⟩

/-! ## INCW and DECW -/

/-- The odd register of a pair is not FLAGS. -/
theorem succ_ne_flagsAddr {a : Byte} (h : a.getLsbD 0 = false) : a + 1 ≠ flagsAddr := by
  revert a; decide

/-- A pair that does not lie on FLAGS: storing to it leaves FLAGS alone. -/
theorem State.flags_setPair (s : State) {d : Byte} (heven : d.getLsbD 0 = false) (hne : d ≠ flagsAddr) (v : Word) :
    (s.setPair d v).flags = s.flags := by
  have hhigh : (s.setReg d (hiByte v)).flags = s.flags := (s.flags_setReg d _).trans (if_neg hne.symm)
  exact (State.flags_setReg _ _ _).trans ((if_neg (succ_ne_flagsAddr heven).symm).trans hhigh)

/-- The effect of rewriting the pair `xw[d]` and the flags, as `Rewrote` for one register. -/
structure RewrotePair (s t : State) (d : Byte) (res : Word) (u : FlagUpdate) (length : Word) : Prop where
  pc : t.pc = s.pc + length
  high : t.reg d = hiByte res
  low : t.reg (d + 1) = loByte res
  flags : t.flags = u.apply s.flags
  frame : SameBut s t [d, d + 1, flagsAddr]

theorem rewrotePair_setPair_updateFlags (s : State) {d : Byte} (heven : d.getLsbD 0 = false) (hne : d ≠ flagsAddr)
    (res : Word) (u : FlagUpdate) (length : Word) :
    RewrotePair s (((s.setPair d res).updateFlags u).advance length) d res u length where
  pc := rfl
  high := by simp [hne, State.setPair]
  low := by
    rw [State.reg_advance, State.reg_updateFlags, if_neg (succ_ne_flagsAddr heven)]
    exact State.reg_setReg_same _ _ _
  flags := by rw [State.flags_advance, State.flags_updateFlags, s.flags_setPair heven hne]
  frame := (((SameBut.refl s _).setPair (by simp) (by simp) _).updateFlags (by simp) _).advance length

theorem modifyPair_of_usable {s : State} {dst : Loc} (hpointer : dst.pointerOk s) (hpair : s.pairOk (dst.address s))
    (hne : dst.address s ≠ flagsAddr) (f : Word → Word × FlagUpdate) (length : Word) :
    ∃ t, modifyPair f dst length s = .next t ∧
      RewrotePair s t (dst.address s) (f (s.pair (dst.address s))).1 (f (s.pair (dst.address s))).2 length :=
  ⟨_, modifyPair_next.mpr ⟨(dst.modifyPairStops_noStop s).mpr ⟨hpointer, hpair, hne⟩, rfl⟩,
    rewrotePair_setPair_updateFlags s hpair.1 hne _ _ _⟩

/-- Settles O28: both are one operation on the pair. -/
theorem incwAndDecw : Obligations.IncwAndDecw := by
  intro f s hpointer hpair hne d a after
  obtain ⟨t, ht, hinc⟩ := modifyPair_of_usable hpointer hpair hne incwOp 2
  obtain ⟨u, hu, hdec⟩ := modifyPair_of_usable hpointer hpair hne decwOp 2
  exact ⟨⟨t, (exec_incwInstr s f).trans ht, hinc.pc, hinc.high, hinc.low, hinc.flags, hinc.frame⟩,
    ⟨u, (exec_decwInstr s f).trans hu, hdec.pc, hdec.high, hdec.low, hdec.flags, hdec.frame⟩,
    by cases f <;> simp [incwInstr, encode, OneForm.column], by cases f <;> simp [decwInstr, encode, OneForm.column]⟩

end Sys2Proof.Machine
end

section
/-! O29, O31: AND, OR and XOR, COM and SWAP. -/

namespace Sys2Proof.Machine

/-! ## AND, OR and XOR -/

theorem logicFlags_apply (res f : Byte) :
    (logicFlags res).apply f =
      packFlags (flagC f) (decide (res = 0#8)) (res.getLsbD 7) false (flagD f) (flagH f) (flagWdt f) (flagSmr f) := rfl

/-- Settles O29: each is one operation of the two-operand shape, whose flags are those of its result. -/
theorem logicalTwoOperand : Obligations.LogicalTwoOperand := by
  intro f s hsrc hdst d a b after
  have hlogic (i : Instr) {op : Byte → Byte → Byte × FlagUpdate} (hi : exec i s = combine op f.dst f.src f.length s)
      (hop : (op a b).2 = logicFlags (op a b).1) : ∃ t, exec i s = .next t ∧ after (op a b).1 t := by
    obtain ⟨t, ht, heffect⟩ := combine_of_usable hsrc hdst op f.length
    have hflags : t.flags = (logicFlags (op a b).1).apply s.flags := hop ▸ heffect.flags
    exact ⟨t, hi.trans ht, heffect.pc, heffect.value, hflags.trans (logicFlags_apply _ _), heffect.frame⟩
  exact ⟨hlogic _ (exec_andInstr s f) rfl, hlogic _ (exec_orInstr s f) rfl, hlogic _ (exec_xorInstr s f) rfl,
    by cases f <;> simp [andInstr, encode, TwoForm.column], by cases f <;> simp [orInstr, encode, TwoForm.column],
    by cases f <;> simp [xorInstr, encode, TwoForm.column]⟩

/-! ## COM and SWAP -/

/-- Exclusive or with FFH inverts every bit (42_logical.md R202). -/
theorem comOp_eq (a : Byte) : comOp a = (~~~a, logicFlags (~~~a)) := by
  have hnot : a ^^^ 0xFF#8 = ~~~a := BitVec.xor_allOnes
  rw [comOp, hnot]

/-- To exchange the nibbles is to rotate by four bits (46_rotate_shift.md R257). -/
theorem swapOp_fst (a : Byte) : (swapOp a).1 = a.rotateLeft 4 := by
  revert a; decide

theorem swapOp_flags (a f : Byte) :
    (swapOp a).2.apply f =
      packFlags (flagC f) (decide (a.rotateLeft 4 = 0#8)) ((a.rotateLeft 4).getLsbD 7) (flagV f) (flagD f) (flagH f)
        (flagWdt f) (flagSmr f) := by
  rw [← swapOp_fst]
  rfl

/-- Settles O31: both are one operation of the one-operand shape. -/
theorem comAndSwap : Obligations.ComAndSwap := by
  intro f s hdst d a after
  obtain ⟨t, ht, hcom⟩ := modify_of_rewritable hdst comOp 2
  obtain ⟨u, hu, hswap⟩ := modify_of_rewritable hdst swapOp 2
  rw [comOp_eq] at hcom
  exact ⟨⟨t, (exec_comInstr s f).trans ht, hcom.pc, hcom.value, hcom.flags.trans (logicFlags_apply _ _), hcom.frame⟩,
    ⟨u, (exec_swapInstr s f).trans hu, hswap.pc, hswap.value.trans (swapOp_fst a),
      hswap.flags.trans (swapOp_flags a s.flags), hswap.frame⟩,
    by cases f <;> simp [comInstr, encode, OneForm.column], by cases f <;> simp [swapInstr, encode, OneForm.column]⟩

end Sys2Proof.Machine
end

section
/-! SUPPORT. A jump leaves all but pc alone; the guards of the stack accesses of CALL, RET and IRET. -/

namespace Sys2Proof.Machine

variable {s t : State}

theorem SameBut.goto {written : List Byte} (h : SameBut s t written) (target : Word) :
    SameBut s (t.goto target) written := h

theorem stackStops_noStop (s : State) (cells : List Byte) :
    NoStop (cells.map s.stackStop) ↔ ∀ a ∈ cells, s.stackCell a := by
  simp only [NoStop, List.forall_mem_map, State.stackStop_none]

theorem stackStops_some {cells : List Byte} {r : Refusal} (h : some r ∈ cells.map s.stackStop) :
    r ∈ [Refusal.stackOnSp, .absentRegister, .deviceRegister] := by
  obtain ⟨a, -, ha⟩ := List.mem_map.mp h
  simpa using State.stackStop_some ha

/-- With a stack cell that may not be used the access is refused (10_state.md R24, R43, 20_memory.md R69). -/
theorem guarded_stackStops_refuses {cells : List Byte} (h : ¬NoStop (cells.map s.stackStop)) (k : Result) :
    ∃ r ∈ [Refusal.stackOnSp, .absentRegister, .deviceRegister], guarded (cells.map s.stackStop) k = .refused r :=
  guarded_refuses (fun _ => stackStops_some) h k

theorem stackStops_pair_noStop (s : State) (a b : Byte) :
    NoStop ([a, b].map s.stackStop) ↔ s.stackCell a ∧ s.stackCell b :=
  (stackStops_noStop s [a, b]).trans (by rw [List.forall_mem_cons, List.forall_mem_singleton])

theorem stackStops_triple_noStop (s : State) (a b c : Byte) :
    NoStop ([a, b, c].map s.stackStop) ↔ s.stackCell a ∧ s.stackCell b ∧ s.stackCell c :=
  (stackStops_noStop s [a, b, c]).trans
    (by rw [List.forall_mem_cons, List.forall_mem_cons, List.forall_mem_singleton])

theorem State.pushWordStops_noStop (s : State) :
    NoStop s.pushWordStops ↔ s.stackCell (s.sp - 2) ∧ s.stackCell (s.sp - 1) := stackStops_pair_noStop s _ _

end Sys2Proof.Machine
end

section
/-! O47, O48, O49: CALL and RET. -/

namespace Sys2Proof.Machine

variable {s t : State}

/-! ## CALL -/

/-- The upper of the two stack cells is the one below the old SP. -/
theorem sub_two_add_one (a : Byte) : a - 2 + 1 = a - 1 := by bv_omega

theorem State.pushWord_eq (s : State) (v : Word) :
    s.pushWord v = ((s.setSp (s.sp - 2)).setReg (s.sp - 2) (hiByte v)).setReg (s.sp - 1) (loByte v) := by
  rw [← sub_two_add_one s.sp]
  rfl

/-- The effect of a CALL to `target` that stores the return address `ret` (43_program_control.md R211, R212). -/
structure Called (s t : State) (target ret : Word) : Prop where
  pc : t.pc = target
  sp : t.sp = s.sp - 2
  high : t.reg (s.sp - 2) = hiByte ret
  low : t.reg (s.sp - 1) = loByte ret
  frame : SameBut s t [s.sp - 2, s.sp - 1, s.dev.spAddr]

theorem called_pushWord_goto (hhigh : s.sp - 2 ≠ s.dev.spAddr) (hlow : s.sp - 1 ≠ s.dev.spAddr)
    (target ret : Word) : Called s ((s.pushWord ret).goto target) target ret := by
  rw [State.pushWord_eq]
  have hcells : s.sp - 2 ≠ s.sp - 1 := by bv_omega
  refine ⟨rfl, ?_, ?_, State.reg_setReg_same _ _ _, ?_⟩
  · exact (State.reg_setReg_other _ _ hlow.symm).trans ((State.reg_setReg_other _ _ hhigh.symm).trans (s.sp_setSp _))
  · exact (State.reg_setReg_other _ _ hcells).trans (State.reg_setReg_same _ _ _)
  · exact ((((SameBut.refl s _).setSp (by simp) _).setReg (by simp) _).setReg (by simp) _).goto target

theorem call_IRR_noStop (s : State) (a : Byte) :
    NoStop (s.pairStop a :: s.pushWordStops) ↔ s.pairOk a ∧ s.stackCell (s.sp - 2) ∧ s.stackCell (s.sp - 1) := by
  rw [noStop_cons, State.pairStop_none, State.pushWordStops_noStop]

theorem call_IRR_stops_some {a : Byte} {r : Refusal} (h : some r ∈ s.pairStop a :: s.pushWordStops) :
    r ∈ [Refusal.stackOnSp, .absentRegister, .deviceRegister, .oddPair] := by
  rcases List.mem_cons.mp h with h | h
  · rcases State.pairStop_some h.symm with rfl | rfl | rfl <;> simp
  · exact List.mem_append_left [.oddPair] (stackStops_some (cells := [s.sp - 2, s.sp - 1]) h)

/-- Settles O47: both forms make the same frame on the stack; only target, length and the pair differ. -/
theorem callResult : Obligations.CallResult := by
  refine ⟨fun s hhigh hlow => ⟨fun target => ?_, fun b hpair => ?_⟩, fun target s h => ?_, fun b s h => ?_,
    fun target b => ⟨rfl, rfl⟩⟩
  · have hcalled := called_pushWord_goto hhigh.1 hlow.1 target (s.pc + 3)
    exact ⟨_, guarded_of_noStop (s.pushWordStops_noStop.mpr ⟨hhigh, hlow⟩) _,
      hcalled.pc, hcalled.sp, hcalled.high, hcalled.low, hcalled.frame⟩
  · have hcalled := called_pushWord_goto hhigh.1 hlow.1 (s.pair (s.reg8 b)) (s.pc + 2)
    exact ⟨_, guarded_of_noStop ((call_IRR_noStop s _).mpr ⟨hpair, hhigh, hlow⟩) _,
      hcalled.pc, hcalled.sp, hcalled.high, hcalled.low, hcalled.frame⟩
  · exact guarded_stackStops_refuses (mt (stackStops_pair_noStop s _ _).mp h) _
  · exact guarded_refuses (fun _ => call_IRR_stops_some) (mt (call_IRR_noStop s _).mp h) _

/-! ## RET -/

/-- Settles O48: RET writes SP and pc, both read from the state before. -/
theorem retResult : Obligations.RetResult := by
  refine ⟨fun s hhigh hlow => ?_, fun s h => ?_⟩
  · exact ⟨_, guarded_of_noStop ((stackStops_pair_noStop s _ _).mpr ⟨hhigh, hlow⟩) _, rfl, s.sp_setSp _,
      ((SameBut.refl s _).setSp (by simp) _).goto _, rfl⟩
  · exact guarded_stackStops_refuses (mt (stackStops_pair_noStop s _ _).mp h) _

/-! ## RET after CALL -/

/-- A CALL that goes on had two usable stack cells, and stored the address of the next instruction. -/
theorem called_of_exec {i : Instr} (hi : (∃ target, i = .call_DA target) ∨ ∃ b, i = .call_IRR b)
    (h : exec i s = .next t) :
    s.stackCell (s.sp - 2) ∧ s.stackCell (s.sp - 1) ∧
      ∃ target, Called s t target (s.pc + BitVec.ofNat 16 i.length) := by
  rcases hi with ⟨target, rfl⟩ | ⟨b, rfl⟩
  · obtain ⟨hstops, ht⟩ := guarded_next.mp h
    obtain ⟨hhigh, hlow⟩ := s.pushWordStops_noStop.mp hstops
    cases ht
    exact ⟨hhigh, hlow, _, called_pushWord_goto hhigh.1 hlow.1 _ _⟩
  · obtain ⟨hstops, ht⟩ := guarded_next.mp h
    obtain ⟨-, hhigh, hlow⟩ := (call_IRR_noStop s _).mp hstops
    cases ht
    exact ⟨hhigh, hlow, _, called_pushWord_goto hhigh.1 hlow.1 _ _⟩

/-- Settles O49 from O48: SP points at the two cells that the CALL wrote, and RET raises it again. -/
theorem callThenRet : Obligations.CallThenRet := by
  intro s t i hi h
  obtain ⟨hhigh, hlow, target, hcalled⟩ := called_of_exec hi h
  have hdev : t.dev = s.dev := hcalled.frame.dev
  have hupper : t.sp + 1 = s.sp - 1 := by rw [hcalled.sp, sub_two_add_one]
  obtain ⟨u, hret, hpc, hsp, hframe, -⟩ := retResult.1 t
    (by rwa [State.stackCell, State.ordinary, hdev, hcalled.sp])
    (by rwa [State.stackCell, State.ordinary, hdev, hupper])
  have hback : u.sp = s.sp := by rw [hsp, hcalled.sp, BitVec.sub_add_cancel]
  have hspReg : u.reg s.dev.spAddr = s.sp := (hcalled.frame.trans hframe).dev ▸ hback
  refine ⟨u, hret, ?_, hback, (hcalled.frame.trans hframe).of_restored fun a ha hother => ?_⟩
  · rw [hpc, hupper, hcalled.sp, hcalled.high, hcalled.low]
    exact joinBytes_hiByte_loByte _
  · have ha : a = s.dev.spAddr := by
      simp only [hdev, List.mem_append, List.mem_cons, List.not_mem_nil, or_false] at ha hother
      tauto
    exact ha ▸ hspReg

end Sys2Proof.Machine
end

section
/-! O16: IRET. -/

namespace Sys2Proof.Machine

variable {s : State}

/-- SP, which is not FLAGS, is as before when IRET has written FLAGS. -/
theorem State.sp_setFlags (h : s.dev.spAddr ≠ flagsAddr) (v : Byte) : (s.setFlags v).sp = s.sp :=
  State.reg_setReg_other s v h

/-- The word at the top of the stack after SP is set to point there. -/
theorem State.topWord_setSp (s : State) {v : Byte} (hhigh : v ≠ s.dev.spAddr) (hlow : v + 1 ≠ s.dev.spAddr) :
    (s.setSp v).topWord = joinBytes (s.reg v) (s.reg (v + 1)) := by
  rw [State.topWord, State.sp_setSp, State.reg_setSp, State.reg_setSp, if_neg hhigh, if_neg hlow]

/-- The state after IRET, each value read where the pseudocode reads it (43_program_control.md R214). -/
theorem State.interruptReturn_eq (h : s.dev.spAddr ≠ flagsAddr) :
    s.interruptReturn =
      let popped := s.setFlags (s.reg s.sp)
      let raised := (popped.setSp (s.sp + 1)).setSp (s.sp + 3)
      (raised.setImr (raised.imr ||| 0x80#8)).goto (popped.setSp (s.sp + 1)).topWord := by
  have hthree : s.sp + 1 + 2 = s.sp + 3 := BitVec.add_assoc _ _ _
  simp only [State.interruptReturn, State.sp_setFlags h, State.sp_setSp, hthree]

theorem State.pc_interruptReturn (h : s.dev.spAddr ≠ flagsAddr) (hhigh : s.sp + 1 ≠ s.dev.spAddr)
    (hlow : s.sp + 2 ≠ s.dev.spAddr) :
    s.interruptReturn.pc =
      joinBytes ((s.setFlags (s.reg s.sp)).reg (s.sp + 1)) ((s.setFlags (s.reg s.sp)).reg (s.sp + 2)) := by
  have htwo : s.sp + 1 + 1 = s.sp + 2 := BitVec.add_assoc _ _ _
  rw [State.interruptReturn_eq h, State.goto_pc, State.topWord_setSp (s.setFlags _) hhigh (by rwa [htwo]), htwo]

/-- The registers after IRET, when SP, FLAGS and IMR are three registers. -/
theorem State.reg_interruptReturn (hflags : s.dev.spAddr ≠ flagsAddr) (himr : imrAddr ≠ s.dev.spAddr) (a : Byte) :
    s.interruptReturn.reg a =
      if a = s.dev.spAddr then s.sp + 3 else if a = imrAddr then s.imr ||| 0x80#8
      else (s.setFlags (s.reg s.sp)).reg a := by
  have hne : imrAddr ≠ flagsAddr := by decide
  rw [State.interruptReturn_eq hflags]
  by_cases hsp : a = s.dev.spAddr
  · simp [hsp, himr.symm]
  · by_cases ha : a = imrAddr <;> simp [State.imr, hsp, ha, himr, hne]

theorem State.sameRest_interruptReturn (s : State) : SameRest s s.interruptReturn :=
  ⟨s.interruptReturn_mode, s.interruptReturn_pending, s.interruptReturn_dev, s.interruptReturn_script,
    s.interruptReturn_emitted, s.interruptReturn_executed, s.interruptReturn_sinceRefresh, s.interruptReturn_ended⟩

/-- Settles O16: the device keeps SP apart from FLAGS and IMR, and the stack cells are not SP. -/
theorem iretResult : Obligations.IretResult := by
  refine ⟨fun s hdev htop hhigh hlow => ?_, fun s h => ?_⟩
  · obtain ⟨-, hspAddr, -⟩ := hdev
    simp only [List.mem_cons, List.not_mem_nil, or_false, not_or] at hspAddr
    obtain ⟨himr, hflags, -⟩ := hspAddr
    refine ⟨_, guarded_of_noStop ((stackStops_triple_noStop s _ _ _).mpr ⟨htop, hhigh, hlow⟩) _, ?_,
      fun a => ?_, s.interruptReturn_progByte, s.sameRest_interruptReturn, rfl⟩
    · rw [State.pc_interruptReturn hflags hhigh.1 hlow.1, State.reg_setFlags, State.reg_setFlags]
      rfl
    · rw [State.reg_interruptReturn hflags (Ne.symm himr), State.reg_setFlags]
  · exact guarded_stackStops_refuses (mt (stackStops_triple_noStop s _ _ _).mp h) _

end Sys2Proof.Machine
end

section
/-! O50, O51: DJNZ, JP and JR. -/

namespace Sys2Proof.Machine

variable {s : State}

/-- Settles O50: with a counter that may be used DJNZ is one store and one jump. -/
theorem djnzResult : Obligations.DjnzResult := by
  refine ⟨fun n offset s hcounter => ?_, fun n offset s h => ?_⟩
  · have hstops : NoStop [s.useStop (s.wr n)] := by simpa using hcounter
    exact ⟨_, guarded_of_noStop hstops _, State.reg_setReg_same _ _ _, rfl,
      ((SameBut.refl s _).setReg (by simp) _).goto _, rfl⟩
  · have hstops : ¬NoStop [s.useStop (s.wr n)] := by simpa using h
    refine guarded_refuses (fun r hr => ?_) hstops _
    simpa using State.useStop_some (List.mem_singleton.mp hr).symm

theorem pairStop_noStop (s : State) (a : Byte) : NoStop [s.pairStop a] ↔ s.pairOk a := by
  rw [noStop_cons, State.pairStop_none, and_iff_left noStop_nil]

/-- Settles O51: each jump writes pc alone, from FLAGS or from its pair. -/
theorem jumpResult : Obligations.JumpResult := by
  refine ⟨fun cc target s => ⟨_, rfl, rfl, (SameBut.refl s []).goto _⟩,
    fun cc offset s => ⟨_, rfl, rfl, (SameBut.refl s []).goto _⟩, fun b s hpair => ?_, fun b s h => ?_,
    fun code target offset b => ⟨?_, ?_, rfl⟩⟩
  · exact ⟨_, guarded_of_noStop ((pairStop_noStop s _).mpr hpair) _, rfl, (SameBut.refl s []).goto _⟩
  · refine guarded_refuses (fun r hr => ?_) (mt (pairStop_noStop s _).mp h) _
    simpa using State.pairStop_some (List.mem_singleton.mp hr).symm
  · rw [encode, Cond.bits_ofBits]
    rfl
  · rw [encode, Cond.bits_ofBits]
    rfl

end Sys2Proof.Machine
end

section
/-! O30: TCM and TM. -/

namespace Sys2Proof.Machine

theorem exec_tcmInstr (f : TwoForm) (s : State) :
    exec (tcmInstr f) s = testOperands tcmFlags f.dst f.src f.length s := by
  cases f <;> rfl

theorem exec_tmInstr (f : TwoForm) (s : State) :
    exec (tmInstr f) s = testOperands tmFlags f.dst f.src f.length s := by
  cases f <;> rfl

/-- The exclusive or with FFH that TCM takes is COM's (44_bit_manipulation.md R231). -/
theorem tcmFlags_eq (a b : Byte) : tcmFlags a b = logicFlags (~~~a &&& b) :=
  congrArg (fun x : Byte × FlagUpdate => logicFlags (x.1 &&& b)) (comOp_eq a)

/-- A masked byte is zero exactly when every bit that the mask selects is 0. -/
theorem and_eq_zero_iff_selected_bits (a b : Byte) :
    a &&& b = 0#8 ↔ ∀ k < 8, b.getLsbD k = true → a.getLsbD k = false := by
  rw [BitVec.eq_of_getLsbD_eq_iff]
  refine forall₂_congr fun k _ => ?_
  rw [BitVec.getLsbD_and, BitVec.getLsbD_zero]
  cases a.getLsbD k <;> simp

/-- With the complement under the mask: every bit that the mask selects is 1. -/
theorem not_and_eq_zero_iff_selected_bits (a b : Byte) :
    ~~~a &&& b = 0#8 ↔ ∀ k < 8, b.getLsbD k = true → a.getLsbD k = true := by
  rw [and_eq_zero_iff_selected_bits]
  refine forall₂_congr fun k hk => ?_
  rw [BitVec.getLsbD_not, decide_eq_true hk, Bool.true_and, Bool.not_eq_false']

theorem flagZ_logicFlags (res f : Byte) : flagZ ((logicFlags res).apply f) = true ↔ res = 0#8 := by
  rw [flagZ_apply]
  exact decide_eq_true_iff

/-- Settles O30: both are tests whose flags are those of the masked byte. -/
theorem testUnderMask : Obligations.TestUnderMask := by
  refine ⟨fun f s hsrc hdst => ?_, fun f s h => ⟨?_, ?_⟩⟩
  · intro a b after
    have htest (i : Instr) {op : Byte → Byte → FlagUpdate} (res : Byte) {selected : Prop}
        (hi : exec i s = testOperands op f.dst f.src f.length s) (hop : op a b = logicFlags res)
        (hzero : res = 0#8 ↔ selected) :
        ∃ t, exec i s = .next t ∧ after res t ∧ (flagZ t.flags = true ↔ selected) := by
      have hflags : ((s.updateFlags (op a b)).advance f.length).flags = (logicFlags res).apply s.flags := by
        rw [State.flags_advance, State.flags_updateFlags, hop]
      exact ⟨_, hi.trans (testOperands_of_usable hsrc hdst op f.length),
        ⟨rfl, hflags.trans (logicFlags_apply res s.flags),
          ((SameBut.refl s _).updateFlags (by simp) _).advance _⟩,
        hflags ▸ (flagZ_logicFlags res s.flags).trans hzero⟩
    exact ⟨htest _ _ (exec_tcmInstr f s) (tcmFlags_eq a b) (not_and_eq_zero_iff_selected_bits a b),
      htest _ _ (exec_tmInstr f s) rfl (and_eq_zero_iff_selected_bits a b),
      by cases f <;> simp [tcmInstr, encode, TwoForm.column], by cases f <;> simp [tmInstr, encode, TwoForm.column]⟩
  · rw [Refuses, exec_tcmInstr]
    exact testOperands_refuses h tcmFlags f.length
  · rw [Refuses, exec_tmInstr]
    exact testOperands_refuses h tmFlags f.length

end Sys2Proof.Machine
end

section
/-! O44, O45: LDCI from and to program memory. -/

namespace Sys2Proof.Machine

variable {s t : State}

/-! ## Both directions use a working register, a pair and a cell -/

/-- LDCI's guard asks first for pointers and a cell that may be used, and then for no overlap. -/
theorem ldciStops_eq_append (s : State) (r q : Byte) :
    ldciStops s r q = [s.useStop r, s.pairStop q, s.accessStop (s.reg r)] ++
      [stopIf (s.reg r == r || s.reg r == q || s.reg r == q + 1 || r == q || r == q + 1) .ldciOverlap] := rfl

theorem ldci_operands_noStop (s : State) (r q : Byte) :
    NoStop [s.useStop r, s.pairStop q, s.accessStop (s.reg r)] ↔
      s.ordinary r ∧ s.pairOk q ∧ hasRegister s.dev (s.reg r) = true := by
  rw [noStop_cons, State.useStop_none, ldc_noStop]

theorem ldci_operands_stops_some {r q : Byte} {reason : Refusal}
    (h : some reason ∈ [s.useStop r, s.pairStop q, s.accessStop (s.reg r)]) :
    reason ∈ [Refusal.oddPair, .absentRegister, .deviceRegister] := by
  rcases List.mem_cons.mp h with h | h
  · exact List.mem_cons_of_mem _ (by simpa using State.useStop_some h.symm)
  · exact ldc_stops_some h

/-- With pointers or a cell that may not be used LDCI is refused for that, an overlap or not (10_state.md R23, R24,
20_memory.md R69). -/
theorem guarded_ldciStops_refuses {r q : Byte}
    (h : ¬(s.ordinary r ∧ s.pairOk q ∧ hasRegister s.dev (s.reg r) = true)) (k : Result) :
    ∃ reason ∈ [Refusal.oddPair, .absentRegister, .deviceRegister],
      guarded (ldciStops s r q) k = .refused reason := by
  rw [ldciStops_eq_append, guarded_append]
  exact guarded_refuses (fun _ => ldci_operands_stops_some) (mt (ldci_operands_noStop s r q).mp h) _

/-- With pointers and a cell that may be used and do not overlap, LDCI goes on (45_block_transfer.md R240). -/
theorem guarded_ldciStops_of_usable {r q : Byte} (hr : s.ordinary r) (hq : s.pairOk q)
    (hcell : hasRegister s.dev (s.reg r) = true) (hapart : s.reg r ∉ [r, q, q + 1]) (hpointers : r ∉ [q, q + 1])
    (k : Result) : guarded (ldciStops s r q) k = k := by
  have hoverlap : NoStop
      [stopIf (s.reg r == r || s.reg r == q || s.reg r == q + 1 || r == q || r == q + 1) .ldciOverlap] := by
    simpa [and_assoc] using And.intro hapart hpointers
  rw [ldciStops_eq_append, guarded_append, guarded_of_noStop ((ldci_operands_noStop s r q).mpr ⟨hr, hq, hcell⟩),
    guarded_of_noStop hoverlap]

/-! ## Both directions move the pointers -/

/-- A pair reads as what was stored to it. -/
theorem State.pair_setPair (s : State) (a : Byte) (v : Word) : (s.setPair a v).pair a = v := by
  have hhalves : a ≠ a + 1 := by bv_omega
  have hhigh : (s.setPair a v).reg a = hiByte v :=
    (State.reg_setReg_other _ _ hhalves).trans (State.reg_setReg_same _ _ _)
  have hlow : (s.setPair a v).reg (a + 1) = loByte v := State.reg_setReg_same _ _ _
  rw [State.pair, hhigh, hlow, joinBytes_hiByte_loByte]

/-- What LDCI does besides moving the byte: the working register takes `a`, the pair takes `w`, pc is past the
instruction, and nothing else differs. -/
structure PointersMoved (s t : State) (r q a : Byte) (w : Word) : Prop where
  pc : t.pc = s.pc + 2
  working : t.reg r = a
  pair : t.pair q = w
  frame : SameBut s t [r, q, q + 1]

section
variable {r q : Byte} (hpointers : r ∉ [q, q + 1])
include hpointers

/-- The order of the transfer from program memory (45_block_transfer.md R241). -/
theorem pointersMoved_working_first (s : State) (a : Byte) (w : Word) :
    PointersMoved s (((s.setReg r a).setPair q w).advance 2) r q a w where
  pc := rfl
  working := by
    have hpair : SameBut (s.setReg r a) (((s.setReg r a).setPair q w).advance 2) [q, q + 1] :=
      ((SameBut.refl _ _).setPair (by simp) (by simp) w).advance 2
    exact (hpair.1 r hpointers).trans (s.reg_setReg_same r a)
  pair := State.pair_setPair _ q w
  frame := (((SameBut.refl s _).setReg (by simp) a).setPair (by simp) (by simp) w).advance 2

/-- The order of the transfer to program memory (R242). -/
theorem pointersMoved_pair_first (s : State) (a : Byte) (w : Word) :
    PointersMoved s (((s.setPair q w).setReg r a).advance 2) r q a w where
  pc := rfl
  working := State.reg_setReg_same _ r a
  pair := by
    simp only [List.mem_cons, List.not_mem_nil, or_false, not_or] at hpointers
    obtain ⟨hhigh, hlow⟩ := hpointers
    rw [State.pair, State.reg_advance, State.reg_advance, State.reg_setReg_other _ _ (Ne.symm hhigh),
      State.reg_setReg_other _ _ (Ne.symm hlow)]
    exact s.pair_setPair q w
  frame := (((SameBut.refl s _).setPair (by simp) (by simp) w).setReg (by simp) a).advance 2

end

/-! ## From program memory -/

/-- The byte at the destination, and the pointers moved after it: what becomes of an ordinary cell and of a peripheral
register that is none of the pointers. -/
theorem PointersMoved.of_put {r q d v a : Byte} {w : Word} (h : PointersMoved (s.put d v) t r q a w)
    (hapart : d ∉ [r, q, q + 1]) :
    (isDevice s.dev d = false → t.reg d = v ∧ SameBut s t [d, r, q, q + 1]) ∧
      (isDevice s.dev d = true → SameBut (s.emit (.deviceWrite d v)) t [r, q, q + 1]) := by
  have hframe := h.frame
  refine ⟨fun hd => ?_, fun hd => ?_⟩
  · rw [State.put_of_ordinary hd] at hframe
    exact ⟨(hframe.1 d hapart).trans (s.reg_setReg_same d v),
      ((SameBut.refl s [d]).setReg (by simp) v).trans hframe⟩
  · rwa [State.put_of_device hd] at hframe

/-- Settles O44: past the guard the program read decides; the pointers are moved after the byte is put. -/
theorem blockLoad : Obligations.BlockLoad := by
  intro n p s r q a8 a16
  refine ⟨fun hr hq hcell hapart hpointers => ?_, fun h => guarded_ldciStops_refuses h _, rfl⟩
  have hexec : exec (.ldci_Ir_Irr n p) s = s.withProgByte a16 fun v =>
      .next ((((s.put a8 v).setReg r (a8 + 1)).setPair q (a16 + 1)).advance 2) :=
    guarded_ldciStops_of_usable hr hq hcell hapart hpointers _
  refine ⟨fun v hv => ?_, fun habsent => ?_, fun hpresent hunloaded => ?_⟩
  · obtain ⟨hpresent, hbyte⟩ := hv
    have hmoved := pointersMoved_working_first hpointers (s.put a8 v) (a8 + 1) (a16 + 1)
    have hpc := hmoved.pc
    rw [State.put_pc] at hpc
    exact ⟨_, hexec.trans (State.withProgByte_some hpresent hbyte _), hpc, hmoved.working, hmoved.pair,
      hmoved.of_put hapart⟩
  · exact hexec.trans (State.withProgByte_absent habsent _)
  · exact hexec.trans (State.withProgByte_unloaded hpresent hunloaded _)

/-! ## To program memory -/

/-- A store to program memory that is not refused goes on from the state with the byte stored, or, where stores are
ignored, from the state as it was (20_memory.md R66). -/
theorem State.storeProgByte_of_not_refuse {a : Word} (hp : hasProgram s.dev a = true)
    (hw : s.dev.progWrite ≠ .refuse) (v : Byte) (k : State → State) :
    ∃ u, s.storeProgByte a v k = .next (k u) ∧ u.pc = s.pc ∧ (∀ b, u.reg b = s.reg b) ∧ SameRest s u ∧
      ∀ b, u.progByte b = if s.dev.progWrite = .perform ∧ b = a then some v else s.progByte b := by
  cases hmode : s.dev.progWrite with
  | refuse => exact absurd hmode hw
  | ignore =>
    exact ⟨s, State.storeProgByte_next.mpr ⟨hp, .inl ⟨hmode, rfl⟩⟩, rfl, fun _ => rfl, SameRest.refl s,
      fun b => by simp⟩
  | perform =>
    exact ⟨s.setProgByte a v, State.storeProgByte_next.mpr ⟨hp, .inr ⟨hmode, rfl⟩⟩, rfl, fun _ => rfl,
      SameRest.refl s, fun b => by simp⟩

/-- LDCI to program memory, with its two addresses named (30_encoding.md R95). -/
theorem exec_ldci_Irr_Ir {hi lo : Nibble} {q r : Byte}
    (hq : s.wr (if s.dev.ldcNibbles = .dstSrc then hi else lo) = q)
    (hr : s.wr (if s.dev.ldcNibbles = .dstSrc then lo else hi) = r) :
    exec (.ldci_Irr_Ir hi lo) s = guarded (ldciStops s r q)
      (s.storeProgByte (s.pair q) (s.plain 0 (s.reg r)) fun u =>
        ((u.setPair q (s.pair q + 1)).setReg r (s.reg r + 1)).advance 2) := by
  rw [← pairNibble_eq_ite] at hq
  rw [← sourceNibble_eq_ite] at hr
  rw [← hq, ← hr]
  rfl

/-- Settles O45: past the guard the program store decides; the pointers are moved whether or not it is performed. -/
theorem blockStore : Obligations.BlockStore := by
  intro hi lo s q r a8 a16
  have hguarded := exec_ldci_Irr_Ir (s := s) (hi := hi) (lo := lo) (q := q) (r := r) rfl rfl
  refine ⟨fun hr hq hcell hapart hpointers => ?_, fun h => ?_, rfl⟩
  · have hexec := hguarded.trans (guarded_ldciStops_of_usable hr hq hcell hapart hpointers _)
    refine ⟨fun hpresent => ⟨fun hw => ?_, fun hw => ?_⟩, fun habsent => ?_⟩
    · exact hexec.trans (State.storeProgByte_refuse hpresent hw _ _)
    · obtain ⟨u, hstore, hpc, hreg, hrest, hprog⟩ := State.storeProgByte_of_not_refuse hpresent hw (s.plain 0 a8)
        fun u => ((u.setPair q (a16 + 1)).setReg r (a8 + 1)).advance 2
      have hmoved := pointersMoved_pair_first hpointers u (a8 + 1) (a16 + 1)
      obtain ⟨hkeptReg, hkeptProg, hkeptRest⟩ := hmoved.frame
      exact ⟨_, hexec.trans hstore, hmoved.pc.trans (congrArg (· + 2) hpc), hmoved.working, hmoved.pair,
        fun a ha => (hkeptReg a ha).trans (hreg a), hrest.trans hkeptRest,
        fun a => (hkeptProg a).trans (hprog a)⟩
    · exact hexec.trans (State.storeProgByte_absent habsent _ _)
  · rw [Refuses, hguarded]
    exact guarded_ldciStops_refuses h _

end Sys2Proof.Machine
end

section
/-! O32, O33: the rotates and SRA. -/

namespace Sys2Proof.Machine

/-! ## The two shifts by one bit -/

theorem shiftInLow_eq (a : Byte) (b : Bool) : shiftInLow a b = (a <<< 1) ||| (if b then 0x01#8 else 0x00#8) := by
  revert a b; decide

theorem shiftInHigh_eq (a : Byte) (b : Bool) : shiftInHigh a b = (a >>> 1) ||| (if b then 0x80#8 else 0x00#8) := by
  revert a b; decide

/-- Shifting in the bit that is shifted out rotates (46_rotate_shift.md R252). -/
theorem shiftInLow_seven (a : Byte) : shiftInLow a (a.getLsbD 7) = a.rotateLeft 1 := by
  revert a; decide

/-- Shifting in the bit that is shifted out rotates (46_rotate_shift.md R254). -/
theorem shiftInHigh_zero (a : Byte) : shiftInHigh a (a.getLsbD 0) = a.rotateRight 1 := by
  revert a; decide

/-- Shifting in the sign is the arithmetic shift (46_rotate_shift.md R256). -/
theorem shiftInHigh_seven (a : Byte) : shiftInHigh a (a.getLsbD 7) = a.sshiftRight 1 := by
  revert a; decide

/-! ## The flags of a rotate -/

theorem rotFlags_apply (dev : Device) (op : RotOp) (old new : Byte) (oldC out : Bool) (f : Byte) :
    (rotFlags dev op old new oldC out).apply f =
      packFlags out (decide (new = 0#8)) (new.getLsbD 7) (rotV dev op old new oldC) (flagD f) (flagH f) (flagWdt f)
        (flagSmr f) := rfl

theorem rotV_signChanged {dev : Device} (h : dev.rotV = .signChanged) (op : RotOp) (old new : Byte) (oldC : Bool) :
    rotV dev op old new oldC = decide (old.getLsbD 7 ≠ new.getLsbD 7) := by
  rw [rotV, h]
  cases old.getLsbD 7 <;> cases new.getLsbD 7 <;> rfl

theorem rotV_free {dev : Device} (h : dev.rotV = .free) (op : RotOp) (old new : Byte) (oldC : Bool) :
    rotV dev op old new oldC = Config.rotV op old new oldC := by
  rw [rotV, h]

/-! ## RL, RLC, RR, RRC -/

theorem rlOp_eq (dev : Device) (cin : Bool) (a : Byte) :
    rlOp dev cin a = (a.rotateLeft 1, rotFlags dev .rl a (a.rotateLeft 1) cin (a.getLsbD 7)) := by
  rw [rlOp, shiftInLow_seven]

theorem rlcOp_eq (dev : Device) (cin : Bool) (a : Byte) :
    rlcOp dev cin a = ((a <<< 1) ||| (if cin then 0x01#8 else 0x00#8),
      rotFlags dev .rlc a ((a <<< 1) ||| (if cin then 0x01#8 else 0x00#8)) cin (a.getLsbD 7)) := by
  rw [rlcOp, shiftInLow_eq]

theorem rrOp_eq (dev : Device) (cin : Bool) (a : Byte) :
    rrOp dev cin a = (a.rotateRight 1, rotFlags dev .rr a (a.rotateRight 1) cin (a.getLsbD 0)) := by
  rw [rrOp, shiftInHigh_zero]

theorem rrcOp_eq (dev : Device) (cin : Bool) (a : Byte) :
    rrcOp dev cin a = ((a >>> 1) ||| (if cin then 0x80#8 else 0x00#8),
      rotFlags dev .rrc a ((a >>> 1) ||| (if cin then 0x80#8 else 0x00#8)) cin (a.getLsbD 0)) := by
  rw [rrcOp, shiftInHigh_eq]

/-- Settles O32: each rotate is one operation of the one-operand shape, with the flags of a rotate. -/
theorem rotates : Obligations.Rotates := by
  intro f s hdst d a c after
  have hrotate {i : Instr} {g : Byte → Byte × FlagUpdate} {op : RotOp} {res : Byte} {out : Bool}
      (hi : exec i s = modify g f.loc 2 s) (hg : g a = (res, rotFlags s.dev op a res c out)) :
      ∃ t, exec i s = .next t ∧ after op res out t := by
    obtain ⟨t, ht, heffect⟩ := modify_of_rewritable hdst g 2
    rw [show g (s.reg (f.loc.address s)) = _ from hg] at heffect
    refine ⟨t, hi.trans ht, heffect.pc, heffect.value, heffect.frame, ?_⟩
    rw [heffect.flags, rotFlags_apply]
    cases hrule : s.dev.rotV with
    | signChanged => rw [rotV_signChanged hrule]
    | free => rw [rotV_free hrule]
  exact ⟨hrotate (exec_rlInstr s f) (rlOp_eq _ _ _), hrotate (exec_rlcInstr s f) (rlcOp_eq _ _ _),
    hrotate (exec_rrInstr s f) (rrOp_eq _ _ _), hrotate (exec_rrcInstr s f) (rrcOp_eq _ _ _),
    by cases f <;> simp [rlInstr, encode, OneForm.column], by cases f <;> simp [rlcInstr, encode, OneForm.column],
    by cases f <;> simp [rrInstr, encode, OneForm.column], by cases f <;> simp [rrcInstr, encode, OneForm.column]⟩

/-! ## SRA -/

theorem sraOp_fst (a : Byte) : (sraOp a).1 = a.sshiftRight 1 := shiftInHigh_seven a

theorem sshiftRight_one_getLsbD_seven (a : Byte) : (a.sshiftRight 1).getLsbD 7 = a.getLsbD 7 := by
  simpa only [BitVec.msb_eq_getLsbD_last] using BitVec.msb_sshiftRight (x := a) (n := 1)

/-- The arithmetic shift is the division that rounds down (46_rotate_shift.md R256). -/
theorem sshiftRight_one_toInt (a : Byte) : (a.sshiftRight 1).toInt = a.toInt / 2 := by
  rw [BitVec.toInt_sshiftRight, Int.shiftRight_eq_div_pow]
  rfl

theorem sraOp_flags (a f : Byte) :
    (sraOp a).2.apply f =
      packFlags (a.getLsbD 0) (decide (a.sshiftRight 1 = 0#8)) (a.getLsbD 7) false (flagD f) (flagH f) (flagWdt f)
        (flagSmr f) := by
  rw [← sshiftRight_one_getLsbD_seven, ← sraOp_fst]
  rfl

/-- Settles O33: one operation of the one-operand shape, whose result is the arithmetic shift. -/
theorem shiftRightArithmetic : Obligations.ShiftRightArithmetic := by
  intro f s hdst d a
  obtain ⟨t, ht, heffect⟩ := modify_of_rewritable hdst sraOp 2
  have hvalue : t.reg d = a.sshiftRight 1 := heffect.value.trans (sraOp_fst a)
  refine ⟨t, (exec_sraInstr s f).trans ht, heffect.pc, ?_, ?_, ?_, heffect.frame,
    by cases f <;> simp [sraInstr, encode, OneForm.column]⟩
  · rw [hvalue, sshiftRight_one_toInt]
  · rw [hvalue, sshiftRight_one_getLsbD_seven]
  · rw [hvalue]
    exact heffect.flags.trans (sraOp_flags a s.flags)

end Sys2Proof.Machine
end

section
/-! O34: the instructions that, repeated, restore their operand. -/

namespace Sys2Proof.Machine

/-! ## A register named directly stays named -/

/-- Operand byte `b` names the register `d` (30_encoding.md R96), which a flag-affecting instruction may rewrite without
moving the working registers. -/
structure State.Names (s : State) (b d : Byte) : Prop where
  address : s.reg8 b = d
  ordinary : s.ordinary d
  notFlags : d ≠ flagsAddr
  notRp : d ≠ rpAddr

section

variable {s t : State} {b d : Byte}

theorem State.Names.rewritable (h : s.Names b d) : (Loc.R b).rewritable s := by
  obtain ⟨rfl, hordinary, hflags, -⟩ := h
  exact ⟨trivial, hordinary, hflags⟩

/-- Rewriting the register and FLAGS leaves RP, and so the name of the register, as it was. -/
theorem State.Names.of_sameBut (h : s.Names b d) (hframe : SameBut s t [d, flagsAddr]) : t.Names b d := by
  have hrp : t.rp = s.rp :=
    hframe.1 rpAddr (by simpa only [List.mem_pair, not_or] using ⟨h.notRp.symm, (by decide : rpAddr ≠ flagsAddr)⟩)
  refine ⟨(State.reg8_of_rp hrp b).trans h.address, ?_, h.notFlags, h.notRp⟩
  rw [State.ordinary, hframe.dev]
  exact h.ordinary

end

/-! ## An instruction as a function of its operand and C -/

/-- The contents of register `d`, and C. -/
def State.operandAndC (s : State) (d : Byte) : Byte × Bool := (s.reg d, flagC s.flags)

/-- On any register `b` may name directly, `i` runs, and does `g` to the register and C. -/
def ActsAs (i : Instr) (b : Byte) (g : Byte × Bool → Byte × Bool) : Prop :=
  ∀ (s : State) (d : Byte), s.Names b d →
    ∃ t, exec i s = .next t ∧ t.Names b d ∧ t.operandAndC d = g (s.operandAndC d)

theorem actsAs_of_modify {i : Instr} {b : Byte} {op : Device → Bool → Byte → Byte × FlagUpdate}
    {g : Byte × Bool → Byte × Bool} (hexec : ∀ s : State, exec i s = modify (op s.dev (flagC s.flags)) (.R b) 2 s)
    (hop : ∀ dev c a, g (a, c) = ((op dev c a).1, (op dev c a).2.c.getD c)) : ActsAs i b g := by
  intro s d h
  obtain ⟨t, ht, heffect⟩ := modify_of_rewritable h.rewritable (op s.dev (flagC s.flags)) 2
  rw [show (Loc.R b).address s = d from h.address] at heffect
  refine ⟨t, (hexec s).trans ht, h.of_sameBut heffect.frame, ?_⟩
  rw [State.operandAndC, State.operandAndC, hop s.dev, heffect.value, heffect.flags, flagC_apply]

theorem repeatExec_succ {i : Instr} {s t : State} (h : exec i s = .next t) (n : Nat) :
    repeatExec i (n + 1) s = repeatExec i n t := by
  rw [repeatExec, h]

/-- Running the instruction `n` times iterates its function. -/
theorem ActsAs.repeatExec {i : Instr} {b d : Byte} {g : Byte × Bool → Byte × Bool} (h : ActsAs i b g) {s : State}
    (hs : s.Names b d) (n : Nat) : ∃ t, repeatExec i n s = .next t ∧ t.operandAndC d = g^[n] (s.operandAndC d) := by
  induction n generalizing s with
  | zero => exact ⟨s, rfl, rfl⟩
  | succ n ih =>
    obtain ⟨t, ht, hnames, hact⟩ := h s d hs
    obtain ⟨u, hu, hiterate⟩ := ih hnames
    exact ⟨u, (repeatExec_succ ht n).trans hu, by rw [hiterate, hact, Function.iterate_succ_apply]⟩

/-! ## What each instruction does to its operand and C (46_rotate_shift.md R252 to R255, R257, 42_logical.md R202) -/

def rlOn (p : Byte × Bool) : Byte × Bool := (p.1.rotateLeft 1, p.1.getLsbD 7)
def rrOn (p : Byte × Bool) : Byte × Bool := (p.1.rotateRight 1, p.1.getLsbD 0)
def rlcOn (p : Byte × Bool) : Byte × Bool := (shiftInLow p.1 p.2, p.1.getLsbD 7)
def rrcOn (p : Byte × Bool) : Byte × Bool := (shiftInHigh p.1 p.2, p.1.getLsbD 0)
def swapOn (p : Byte × Bool) : Byte × Bool := (p.1.rotateLeft 4, p.2)
def comOn (p : Byte × Bool) : Byte × Bool := (~~~p.1, p.2)

theorem rl_actsAs (b : Byte) : ActsAs (.rl_R b) b rlOn :=
  actsAs_of_modify (fun s => exec_rlInstr s (.R b)) fun dev c a => by rw [rlOp_eq]; rfl

theorem rr_actsAs (b : Byte) : ActsAs (.rr_R b) b rrOn :=
  actsAs_of_modify (fun s => exec_rrInstr s (.R b)) fun dev c a => by rw [rrOp_eq]; rfl

theorem rlc_actsAs (b : Byte) : ActsAs (.rlc_R b) b rlcOn :=
  actsAs_of_modify (fun s => exec_rlcInstr s (.R b)) fun _ _ _ => rfl

theorem rrc_actsAs (b : Byte) : ActsAs (.rrc_R b) b rrcOn :=
  actsAs_of_modify (fun s => exec_rrcInstr s (.R b)) fun _ _ _ => rfl

theorem swap_actsAs (b : Byte) : ActsAs (.swap_R b) b swapOn :=
  actsAs_of_modify (op := fun _ _ => swapOp) (fun s => exec_swapInstr s (.R b)) fun _ _ a => by
    rw [swapOp_fst]; rfl

theorem com_actsAs (b : Byte) : ActsAs (.com_R b) b comOn :=
  actsAs_of_modify (op := fun _ _ => comOp) (fun s => exec_comInstr s (.R b)) fun _ _ a => by
    rw [comOp_eq]; rfl

/-! ## Rotating a word of any width all the way round -/

section

variable {w : Nat}

/-- A rotate to the left takes each bit from the place below it, counted round the word. -/
theorem getLsbD_rotateLeft_one (x : BitVec w) {i : Nat} (hi : i < w) :
    (x.rotateLeft 1).getLsbD i = x.getLsbD ((i + (w - 1)) % w) := by
  rw [BitVec.getLsbD_rotateLeft]
  rcases Nat.eq_zero_or_pos i with rfl | hpos
  · rcases Nat.lt_or_ge 1 w with hw | hw
    · rw [Nat.mod_eq_of_lt hw, Nat.mod_eq_of_lt (by omega)]
      simp
    · obtain rfl : w = 1 := by omega
      simp
  · rw [Nat.mod_eq_of_lt (show 1 < w by omega), show i + (w - 1) = i - 1 + w by omega, Nat.add_mod_right,
      Nat.mod_eq_of_lt (show i - 1 < w by omega)]
    simp [hi, Nat.not_lt.mpr hpos]

theorem getLsbD_iterate_rotateLeft_one (x : BitVec w) {n i : Nat} (hn : n ≤ w) (hi : i < w) :
    ((·.rotateLeft 1)^[n] x).getLsbD i = x.getLsbD ((i + (w - n)) % w) := by
  induction n generalizing i with
  | zero => rw [Nat.sub_zero, Nat.add_mod_right, Nat.mod_eq_of_lt hi]; rfl
  | succ n ih =>
    have hplace : i + (w - 1) + (w - n) = i + (w - (n + 1)) + w := by omega
    rw [Function.iterate_succ_apply', getLsbD_rotateLeft_one _ hi, ih (by omega) (Nat.mod_lt _ (by omega)),
      Nat.mod_add_mod, hplace, Nat.add_mod_right]

/-- As many rotates as the word has bits bring every bit back to its place. -/
theorem iterate_rotateLeft_one_width (x : BitVec w) : (·.rotateLeft 1)^[w] x = x := by
  refine BitVec.eq_of_getLsbD_eq fun i hi => ?_
  rw [getLsbD_iterate_rotateLeft_one x (Nat.le_refl w) hi, Nat.sub_self, Nat.add_zero, Nat.mod_eq_of_lt hi]

theorem rotateRight_rotateLeft_one (x : BitVec w) : (x.rotateLeft 1).rotateRight 1 = x := by
  ext i hi
  simp only [BitVec.getElem_rotateRight, BitVec.getElem_rotateLeft]
  grind

end

/-! ## The iterates that restore -/

/-- What undoes `g` is restored by the same iterate. -/
theorem iterate_eq_self_of_leftInverse {α : Type} {f g : α → α} (h : Function.LeftInverse f g) {n : Nat}
    (hg : ∀ x, g^[n] x = x) (x : α) : f^[n] x = x := by
  have hback := h.iterate n x
  rwa [hg] at hback

theorem rlOn_eight (p : Byte × Bool) : (rlOn^[8] p).1 = p.1 := by
  have hvalue : Function.Semiconj Prod.fst rlOn (·.rotateLeft 1) := fun _ => rfl
  rw [hvalue.iterate_right 8 p, iterate_rotateLeft_one_width]

theorem rrOn_eight (p : Byte × Bool) : (rrOn^[8] p).1 = p.1 := by
  have hvalue : Function.Semiconj Prod.fst rrOn (·.rotateRight 1) := fun _ => rfl
  have hundo : Function.LeftInverse (fun a : Byte => a.rotateRight 1) (·.rotateLeft 1) := rotateRight_rotateLeft_one
  rw [hvalue.iterate_right 8 p, iterate_eq_self_of_leftInverse hundo iterate_rotateLeft_one_width]

theorem rrOn_rlOn (p : Byte × Bool) : (rrOn (rlOn p)).1 = p.1 := rotateRight_rotateLeft_one p.1

/-- The nine bits that RLC and RRC rotate, C above the operand (46_rotate_shift.md R253, R255). -/
def carryAndOperand (p : Byte × Bool) : BitVec 9 := BitVec.cons p.2 p.1

theorem carryAndOperand_injective : Function.Injective carryAndOperand := by
  intro p q h
  have hc := congrArg BitVec.msb h
  have ha := congrArg (BitVec.setWidth 8) h
  rw [carryAndOperand, carryAndOperand, BitVec.msb_cons, BitVec.msb_cons] at hc
  rw [carryAndOperand, carryAndOperand, BitVec.setWidth_cons, BitVec.setWidth_cons] at ha
  exact Prod.ext ha hc

theorem carryAndOperand_rlcOn : Function.Semiconj carryAndOperand rlcOn (·.rotateLeft 1) := by
  rintro ⟨a, c⟩
  revert a c; decide

theorem rlcOn_nine (p : Byte × Bool) : rlcOn^[9] p = p :=
  carryAndOperand_injective ((carryAndOperand_rlcOn.iterate_right 9 p).trans (iterate_rotateLeft_one_width _))

/-- RRC undoes RLC, C with it (46_rotate_shift.md R255). -/
theorem rrcOn_rlcOn (p : Byte × Bool) : rrcOn (rlcOn p) = p := by
  obtain ⟨a, c⟩ := p
  revert a c; decide

theorem rrcOn_nine (p : Byte × Bool) : rrcOn^[9] p = p := iterate_eq_self_of_leftInverse rrcOn_rlcOn rlcOn_nine p

theorem swapOn_twice (p : Byte × Bool) : (swapOn^[2] p).1 = p.1 := by
  have htwice (a : Byte) : (a.rotateLeft 4).rotateLeft 4 = a := by
    revert a; decide
  exact htwice p.1

theorem comOn_twice (p : Byte × Bool) : (comOn^[2] p).1 = p.1 := BitVec.not_not

/-! ## CCF -/

theorem exec_ccf (s : State) : exec .ccf s = .next ((s.updateFlags { c := some (!flagC s.flags) }).advance 1) := rfl

/-- C complemented twice is C as it was; CCF writes no other flag (47_cpu_control.md R271). -/
theorem complementC_twice (f : Byte) :
    FlagUpdate.apply { c := some (!flagC (FlagUpdate.apply { c := some (!flagC f) } f)) }
      (FlagUpdate.apply { c := some (!flagC f) } f) = f := by
  simp [FlagUpdate.apply, packFlags_bits, packFlags_self]

theorem repeatExec_ccf_two (s : State) : ∃ t, repeatExec .ccf 2 s = .next t ∧ t.flags = s.flags := by
  have hflags (u : State) : ((u.updateFlags { c := some (!flagC u.flags) }).advance 1).flags =
      FlagUpdate.apply { c := some (!flagC u.flags) } u.flags := State.flags_updateFlags u _
  refine ⟨_, (repeatExec_succ (exec_ccf s) 1).trans (repeatExec_succ (exec_ccf _) 0), ?_⟩
  rw [hflags, hflags, complementC_twice]

/-- Settles O34: each instruction acts on its operand and C as a function, an iterate of which is the identity. -/
theorem repeatedRotatesRestore : Obligations.RepeatedRotatesRestore := by
  refine ⟨?_, repeatExec_ccf_two⟩
  intro b s hordinary hflags hrp d
  have hnames : s.Names b d := ⟨rfl, hordinary, hflags, hrp⟩
  have hvalue {i : Instr} {g : Byte × Bool → Byte × Bool} {n : Nat} (hi : ActsAs i b g)
      (hg : ∀ p, (g^[n] p).1 = p.1) : ∃ t, repeatExec i n s = .next t ∧ t.reg d = s.reg d := by
    obtain ⟨t, ht, hact⟩ := hi.repeatExec hnames n
    exact ⟨t, ht, (congrArg Prod.fst hact).trans (hg _)⟩
  have hboth {i : Instr} {g : Byte × Bool → Byte × Bool} {n : Nat} (hi : ActsAs i b g) (hg : ∀ p, g^[n] p = p) :
      ∃ t, repeatExec i n s = .next t ∧ t.reg d = s.reg d ∧ flagC t.flags = flagC s.flags := by
    obtain ⟨t, ht, hact⟩ := hi.repeatExec hnames n
    exact ⟨t, ht, Prod.ext_iff.mp (hact.trans (hg _))⟩
  have hundone : ∃ t u, exec (.rl_R b) s = .next t ∧ exec (.rr_R b) t = .next u ∧ u.reg d = s.reg d := by
    obtain ⟨t, ht, hnamesT, hrl⟩ := rl_actsAs b s d hnames
    obtain ⟨u, hu, -, hrr⟩ := rr_actsAs b t d hnamesT
    exact ⟨t, u, ht, hu, (congrArg Prod.fst (hrr.trans (congrArg rrOn hrl))).trans (rrOn_rlOn _)⟩
  exact ⟨hvalue (rl_actsAs b) rlOn_eight, hvalue (rr_actsAs b) rrOn_eight, hboth (rlc_actsAs b) rlcOn_nine,
    hboth (rrc_actsAs b) rrcOn_nine, hundone, hvalue (swap_actsAs b) swapOn_twice, hvalue (com_actsAs b) comOn_twice⟩

end Sys2Proof.Machine
end

section
/-! O52, O54, O55, O56: the CPU control instructions but DI and EI, and the reserved op codes. -/

namespace Sys2Proof.Machine

variable {s : State}

/-! ## CCF, RCF, SCF -/

/-- Writing C alone clears or sets bit 7 of FLAGS (10_state.md R31). -/
theorem writeC_apply (c : Bool) (f : Byte) :
    FlagUpdate.apply { c := some c } f = if c then f ||| 0x80#8 else f &&& 0x7F#8 := by
  revert c f; decide

/-- Writing the complement of C inverts bit 7 of FLAGS. -/
theorem complementC_apply (f : Byte) : FlagUpdate.apply { c := some (!flagC f) } f = f ^^^ 0x80#8 := by
  revert f; decide

/-- Settles O52: each of the three is an update of C, then one byte of pc. -/
theorem carryInstructions : Obligations.CarryInstructions := by
  intro s after
  have hupdate (u : FlagUpdate) {f : Byte} (hf : u.apply s.flags = f) : after f ((s.updateFlags u).advance 1) :=
    ⟨rfl, (s.flags_updateFlags u).trans hf, ((SameBut.refl s _).updateFlags (by simp) u).advance 1⟩
  exact ⟨⟨_, rfl, hupdate _ (complementC_apply _)⟩, ⟨_, rfl, hupdate _ (writeC_apply false _)⟩,
    ⟨_, rfl, hupdate _ (writeC_apply true _)⟩, rfl, rfl, rfl⟩

/-! ## HALT and STOP -/

theorem exec_stop_refused (h : flagWdt s.flags = true ∨ flagSmr s.flags = true) :
    exec .stop s = .refused .staleStop := by
  have hstale : (flagSmr s.flags || flagWdt s.flags) = true := by simpa [or_comm] using h
  show guarded [stopIf _ _] _ = _
  rw [hstale]
  rfl

/-- Settles O54: but for the mode, HALT is one byte of pc, and STOP a store to FLAGS and one byte of pc. -/
theorem haltAndStop : Obligations.HaltAndStop := by
  refine ⟨fun s => ?_, fun s hwdt hsmr => ?_, fun s h => exec_stop_refused h, rfl, rfl⟩
  · exact ⟨_, exec_halt_next.mpr rfl, rfl, rfl, (SameBut.refl s []).advance 1⟩
  · exact ⟨_, exec_stop_next.mpr ⟨⟨hsmr, hwdt⟩, rfl⟩, rfl, rfl, s.flags_setFlags _,
      ((SameBut.refl s [flagsAddr]).setReg (by simp) _).advance 1⟩

/-! ## NOP and the reserved op codes -/

/-- Every reserved op code executes as the reserved NOP of its byte (30_encoding.md R105). -/
theorem exec_reservedInstrs {b : Byte} {i : Instr} (h : (b, i) ∈ reservedInstrs) (s : State) :
    exec i s = reservedNop b s := by
  have hall : reservedInstrs.map (fun p => exec p.2 s) = reservedInstrs.map (fun p => reservedNop p.1 s) := rfl
  exact List.map_inj_left.mp hall _ h

theorem encode_reservedInstrs {b : Byte} {i : Instr} (h : (b, i) ∈ reservedInstrs) : encode i = [b] := by
  have hall : reservedInstrs.map (fun p => encode p.2) = reservedInstrs.map (fun p => [p.1]) := rfl
  exact List.map_inj_left.mp hall _ h

/-- The columns that hold a reserved op code (30_encoding.md R92). -/
theorem columnLength_reservedInstrs {b : Byte} {i : Instr} (h : (b, i) ∈ reservedInstrs) :
    columnLength (loNibble b) = if b.toNat % 16 = 15 then 1 else if b.toNat % 16 ≤ 3 then 2 else 3 := by
  have hall : reservedInstrs.map (fun p => columnLength (loNibble p.1)) =
      reservedInstrs.map fun p => if p.1.toNat % 16 = 15 then 1 else if p.1.toNat % 16 ≤ 3 then 2 else 3 := rfl
  exact List.map_inj_left.mp hall _ h

/-- The bytes that a reserved op code consumes where the device gives it a length (30_encoding.md R106). -/
def reservedLength (l : ReservedLen) (opcode : Byte) : Nat :=
  match l with
  | .one => 1
  | .column => columnLength (loNibble opcode)
  | .free => (Config.reservedLen opcode).val + 1
  | .refuse => 0

/-- Where a length is given, the reserved NOP moves pc by it and does nothing else. -/
theorem reservedNop_of_length (opcode : Byte) (h : s.dev.reservedLen ≠ .refuse) :
    reservedNop opcode s = .next (s.advance (BitVec.ofNat 16 (reservedLength s.dev.reservedLen opcode))) := by
  unfold reservedNop reservedLength
  cases hlen : s.dev.reservedLen with
  | one | column | free => rfl
  | refuse => exact absurd hlen h

theorem reservedNop_refuse (opcode : Byte) (h : s.dev.reservedLen = .refuse) :
    reservedNop opcode s = .refused .reservedOpcode := by
  rw [reservedNop, h]

/-- Every length that a device gives is one to three bytes. -/
theorem reservedLength_range {b : Byte} {i : Instr} (hi : (b, i) ∈ reservedInstrs) {l : ReservedLen}
    (hl : l ≠ .refuse) : 1 ≤ reservedLength l b ∧ reservedLength l b ≤ 3 := by
  cases l with
  | one => exact ⟨Nat.le_refl 1, Nat.le_add_left 1 2⟩
  | column =>
    rw [reservedLength, columnLength_reservedInstrs hi]
    split
    · decide
    · split <;> decide
  | free => exact ⟨Nat.le_add_left 1 _, Nat.succ_le_of_lt (Config.reservedLen b).isLt⟩
  | refuse => exact absurd rfl hl

/-- Settles O55: NOP and every reserved op code that has a length move pc alone. -/
theorem nopAndReserved : Obligations.NopAndReserved := by
  refine ⟨fun s => ⟨_, rfl, rfl, (SameBut.refl s []).advance 1⟩, rfl, fun s b i hi => ?_⟩
  have hexec := exec_reservedInstrs hi s
  refine ⟨encode_reservedInstrs hi, fun hlen => ?_, fun hrefuse => hexec.trans (reservedNop_refuse b hrefuse)⟩
  obtain ⟨hpos, hle⟩ := reservedLength_range hi hlen
  refine ⟨_, hexec.trans (reservedNop_of_length b hlen), (SameBut.refl s []).advance _,
    reservedLength s.dev.reservedLen b, hpos, hle, rfl, fun h => ?_, fun h => ?_, fun h => ?_⟩
  · rw [h]; rfl
  · rw [h]; exact columnLength_reservedInstrs hi
  · rw [h]; rfl

/-! ## SRP and WDT -/

/-- Settles O56: SRP is a store to RP, from which every working-register address is formed; WDT is one event. -/
theorem srpAndWdt : Obligations.SrpAndWdt := by
  refine ⟨fun imm s => ?_, fun s => ?_, fun _ => rfl, rfl⟩
  · have hrp : ((s.setRp imm).advance 2).rp = imm := s.rp_setRp imm
    refine ⟨_, rfl, rfl, hrp, ((SameBut.refl s _).setReg (by simp) imm).advance 2, fun n => ?_⟩
    exact congrArg (fun rp => joinNibbles (hiNibble rp) n) hrp
  · exact ⟨_, exec_wdt_next.mpr rfl, rfl, rfl, (SameBut.refl (s.emit .wdtRefresh) []).advance 1⟩

end Sys2Proof.Machine
end

section
/-! O14, O53: the interrupt check, and DI and EI, which it sees. -/

namespace Sys2Proof.Machine

variable {s : State}

/-! ## The highest rank -/

theorem highestRank_cons_ne_none (x : IrqSource) (xs : List IrqSource) : highestRank (x :: xs) ≠ none := by
  rw [highestRank]
  split
  · nofun
  · split <;> nofun

/-- Something is found unless there is nothing to find. -/
theorem highestRank_eq_none_iff {sources : List IrqSource} : highestRank sources = none ↔ sources = [] := by
  cases sources with
  | nil => exact ⟨fun _ => rfl, fun _ => rfl⟩
  | cons x xs => exact ⟨fun h => absurd h (highestRank_cons_ne_none x xs), nofun⟩

/-- What is found is in the list, and nothing there has a higher rank (60_exceptions.md R310). -/
theorem highestRank_some {sources : List IrqSource} {src : IrqSource} (h : highestRank sources = some src) :
    src ∈ sources ∧ ∀ x ∈ sources, x.rank ≤ src.rank := by
  induction sources generalizing src with
  | nil => cases h
  | cons x xs ih =>
    rw [highestRank] at h
    cases hxs : highestRank xs with
    | none =>
      have hnil : xs = [] := highestRank_eq_none_iff.mp hxs
      rw [hxs] at h
      cases h
      simp [hnil]
    | some y =>
      obtain ⟨hmem, hmax⟩ := ih hxs
      simp only [hxs] at h
      split at h <;> cases h
      next hlt =>
        refine ⟨List.mem_cons_of_mem _ hmem, fun z hz => ?_⟩
        rcases List.mem_cons.mp hz with rfl | hz
        · exact Nat.le_of_lt hlt
        · exact hmax z hz
      next hge =>
        refine ⟨List.mem_cons_self, fun z hz => ?_⟩
        rcases List.mem_cons.mp hz with rfl | hz
        · exact Nat.le_refl _
        · exact (hmax z hz).trans (Nat.le_of_not_lt hge)

/-! ## What the check finds -/

/-- The set `T` of 60_exceptions.md R305. -/
theorem State.mem_takeable {src : IrqSource} :
    src ∈ s.takeable ↔ src ∈ s.dev.irq ∧ src.name ∈ s.pending ∧ masterEnable s.imr = true ∧
      irqEnabled src.enable s.imr = true := by
  simp [State.takeable, and_assoc]

theorem State.interruptDue_of_stopped (h : s.mode = .stopped) : s.interruptDue = none := by
  rw [State.interruptDue, h]

theorem State.interruptDue_of_not_stopped (h : s.mode ≠ .stopped) : s.interruptDue = highestRank s.takeable := by
  unfold State.interruptDue
  cases hm : s.mode with
  | running | halted => rfl
  | stopped => exact absurd hm h

/-- The check finds a takeable source, in no mode but Running and Halted (60_exceptions.md R305, R323). -/
theorem State.interruptDue_some {src : IrqSource} (h : s.interruptDue = some src) :
    s.mode ≠ .stopped ∧ src ∈ s.takeable ∧ ∀ x ∈ s.takeable, x.rank ≤ src.rank := by
  have hm : s.mode ≠ .stopped := fun hm => by simp [State.interruptDue_of_stopped hm] at h
  rw [State.interruptDue_of_not_stopped hm] at h
  exact ⟨hm, highestRank_some h⟩

/-- In Running and Halted the check finds nothing exactly when nothing is takeable. -/
theorem State.interruptDue_eq_none_iff (h : s.mode ≠ .stopped) :
    s.interruptDue = none ↔ ∀ x ∈ s.dev.irq,
      ¬(x.name ∈ s.pending ∧ masterEnable s.imr = true ∧ irqEnabled x.enable s.imr = true) := by
  rw [State.interruptDue_of_not_stopped h, highestRank_eq_none_iff, List.eq_nil_iff_forall_not_mem]
  simp only [State.mem_takeable, not_and]

/-- With IMR(7) = 0 nothing is found (60_exceptions.md R305). -/
theorem State.interruptDue_of_disabled (h : masterEnable s.imr = false) : s.interruptDue = none := by
  by_cases hm : s.mode = .stopped
  · exact State.interruptDue_of_stopped hm
  · refine (State.interruptDue_eq_none_iff hm).mpr fun x _ hx => ?_
    obtain ⟨-, hmaster, -⟩ := hx
    simp [h] at hmaster

theorem State.proceed_of_interruptDue {src : IrqSource} (h : s.interruptDue = some src) :
    s.proceed = s.takeInterrupt src := by
  rw [State.proceed, h]

/-- Settles O14, from what the check finds; at a quiet boundary what it finds is what `step` takes. -/
theorem interruptCheck : Obligations.InterruptCheck := by
  refine ⟨fun s h => ?_, fun s src h => ?_, fun s hm h => (State.interruptDue_eq_none_iff hm).mp h,
    fun s src hended hquiet hdue h => ?_⟩
  · exact h.elim State.interruptDue_of_disabled State.interruptDue_of_stopped
  · obtain ⟨hm, hsrc, hmax⟩ := State.interruptDue_some h
    obtain ⟨hirq, hpending, hmaster, henabled⟩ := State.mem_takeable.mp hsrc
    exact ⟨hirq, hpending, hmaster, henabled, hm,
      fun x hx hxp hxe => hmax x (State.mem_takeable.mpr ⟨hx, hxp, hmaster, hxe⟩)⟩
  · rw [step_of_noRestart hended ⟨by rw [hquiet], .inl hdue, .inl (by rw [hquiet])⟩,
      State.arrive_of_quiet (by rw [hquiet])]
    exact State.proceed_of_interruptDue h

/-! ## DI and EI -/

theorem masterEnable_clear (imr : Byte) : masterEnable (imr &&& 0x7F#8) = false := by
  simp [masterEnable]

theorem masterEnable_set (imr : Byte) : masterEnable (imr ||| 0x80#8) = true := by
  simp [masterEnable]

/-- The enable of a source looks at IMR bits 6:0 alone (60_exceptions.md R302). -/
theorem irqEnabled_of_low_bits (e : IrqEnable) {a b : Byte} (h : a.extractLsb' 0 7 = b.extractLsb' 0 7) :
    irqEnabled e a = irqEnabled e b := by
  cases e with
  | always => rfl
  | whenBit n =>
    have hbit := congrArg (fun x : BitVec 7 => x.getLsbD n.val) h
    simpa [irqEnabled] using hbit
  | oneOf values => simp only [irqEnabled, h]

theorem irqEnabled_set_master (e : IrqEnable) (imr : Byte) :
    irqEnabled e (imr ||| 0x80#8) = irqEnabled e imr :=
  irqEnabled_of_low_bits e (by revert imr; decide)

theorem State.imr_advance (s : State) (length : Word) : (s.advance length).imr = s.imr := rfl

/-- Settles O53: each is a store to IMR, and the check looks at IMR as it then is (log 30). -/
theorem interruptEnableInstructions : Obligations.InterruptEnableInstructions := by
  intro s
  have hframe (v : Byte) : SameBut s ((s.setImr v).advance 1) [imrAddr] :=
    ((SameBut.refl s _).setReg (by simp) v).advance 1
  have himr (v : Byte) : ((s.setImr v).advance 1).imr = v := s.imr_setImr v
  refine ⟨⟨_, rfl, rfl, himr _, hframe _, State.interruptDue_of_disabled ?_⟩,
    ⟨_, rfl, rfl, himr _, hframe _, fun hm x hx hpending henabled hnone => ?_⟩, rfl, rfl⟩
  · rw [himr, masterEnable_clear]
  · have hrunning : ((s.setImr (s.imr ||| 0x80#8)).advance 1).mode ≠ .stopped := by simp [hm]
    refine (State.interruptDue_eq_none_iff hrunning).mp hnone x hx ⟨hpending, ?_, ?_⟩
    · rw [himr, masterEnable_set]
    · rw [himr, irqEnabled_set_master, henabled]

end Sys2Proof.Machine
end

section
/-! O15, O17: interrupt entry, and IRET after it. -/

namespace Sys2Proof.Machine

variable {s t : State}

/-! SP is a register of its own on a well-formed device (00_scope.md R6). -/

theorem ne_spAddr_of_wf {d : Device} (h : d.wf) {a : Byte} (ha : a ∈ [imrAddr, flagsAddr, rpAddr]) :
    a ≠ d.spAddr := by
  obtain ⟨-, hsp, -⟩ := h
  rintro rfl
  exact hsp ha

theorem flagsAddr_ne_spAddr_of_wf {d : Device} (h : d.wf) : flagsAddr ≠ d.spAddr := ne_spAddr_of_wf h (by simp)

theorem imrAddr_ne_spAddr_of_wf {d : Device} (h : d.wf) : imrAddr ≠ d.spAddr := ne_spAddr_of_wf h (by simp)

theorem SameRest.dev (h : SameRest s t) : t.dev = s.dev := by
  obtain ⟨-, -, hdev, -⟩ := h
  exact hdev

/-! ## The stack bytes -/

/-- The register file after entry has stored the two PC bytes (60_exceptions.md R307). -/
def State.stacked (s : State) (a : Byte) : Byte :=
  if a = s.sp - 2 then hiByte s.pc else if a = s.sp - 1 then loByte s.pc else s.reg a

/-- And after it has stored FLAGS below them; IMR(7) and SP come last. -/
def State.framed (s : State) (a : Byte) : Byte := if a = s.sp - 3 then s.stacked flagsAddr else s.stacked a

theorem State.stacked_other {a : Byte} (hlow : a ≠ s.sp - 1) (hhigh : a ≠ s.sp - 2) : s.stacked a = s.reg a := by
  rw [State.stacked, if_neg hhigh, if_neg hlow]

theorem State.framed_high (s : State) : s.framed (s.sp - 2) = hiByte s.pc := by
  have hcells : s.sp - 2 ≠ s.sp - 3 := by bv_omega
  rw [State.framed, if_neg hcells, State.stacked, if_pos rfl]

theorem State.framed_low (s : State) : s.framed (s.sp - 1) = loByte s.pc := by
  have hcells : s.sp - 1 ≠ s.sp - 3 ∧ s.sp - 1 ≠ s.sp - 2 := by bv_omega
  rw [State.framed, if_neg hcells.1, State.stacked, if_neg hcells.2, if_pos rfl]

theorem State.framed_flags (s : State) : s.framed (s.sp - 3) = s.stacked flagsAddr := by
  rw [State.framed, if_pos rfl]

theorem State.framed_other {a : Byte} (hlow : a ≠ s.sp - 1) (hhigh : a ≠ s.sp - 2) (hflags : a ≠ s.sp - 3) :
    s.framed a = s.reg a := by
  rw [State.framed, if_neg hflags, State.stacked_other hlow hhigh]

/-! ## The frame -/

/-- The state before the jump to the handler, each value read where the pseudocode reads it, when no PC byte is stored
on SP itself. -/
theorem State.interruptFrame_eq (hlow : s.sp - 1 ≠ s.dev.spAddr) (hhigh : s.sp - 2 ≠ s.dev.spAddr) :
    s.interruptFrame =
      let lowered := (s.pushWord s.pc).setSp (s.sp - 3)
      let stored := lowered.setReg (s.sp - 3) lowered.flags
      stored.setImr (stored.imr &&& 0x7F#8) := by
  have hsp : (s.pushWord s.pc).sp = s.sp - 2 := (called_pushWord_goto hhigh hlow 0 s.pc).sp
  have hthree : s.sp - 2 - 1 = s.sp - 3 := by bv_omega
  simp only [State.interruptFrame, hsp, hthree, State.sp_setSp]

/-- The registers but SP after the two PC bytes are stored. -/
theorem State.reg_pushWord_pc (s : State) {a : Byte} (h : a ≠ s.dev.spAddr) :
    (s.pushWord s.pc).reg a = s.stacked a := by
  have hcells : s.sp - 2 ≠ s.sp - 1 := by bv_omega
  rw [State.pushWord_eq, State.reg_setReg, State.reg_setReg, State.reg_setSp, if_neg h, State.stacked]
  by_cases hhigh : a = s.sp - 2
  · rw [hhigh, if_neg hcells, if_pos rfl, if_pos rfl]
  · rw [if_neg hhigh, if_neg hhigh]

/-- The registers after the frame is made, when SP, FLAGS and IMR are three registers and no stack cell is SP. -/
theorem State.reg_interruptFrame (hdev : s.dev.wf) (hlow : s.sp - 1 ≠ s.dev.spAddr) (hhigh : s.sp - 2 ≠ s.dev.spAddr)
    (hflags : s.sp - 3 ≠ s.dev.spAddr) (a : Byte) :
    s.interruptFrame.reg a =
      if a = s.dev.spAddr then s.sp - 3 else if a = imrAddr then s.framed imrAddr &&& 0x7F#8 else s.framed a := by
  have hspF := flagsAddr_ne_spAddr_of_wf hdev
  have hspI := imrAddr_ne_spAddr_of_wf hdev
  rw [State.interruptFrame_eq hlow hhigh]
  dsimp only
  generalize hlowered : (s.pushWord s.pc).setSp (s.sp - 3) = lowered
  have hstacked (b : Byte) (hb : b ≠ s.dev.spAddr) : lowered.reg b = s.stacked b := by
    rw [← hlowered, State.reg_setSp, State.pushWord_dev, if_neg hb, s.reg_pushWord_pc hb]
  have hframed (b : Byte) (hb : b ≠ s.dev.spAddr) :
      (lowered.setReg (s.sp - 3) lowered.flags).reg b = s.framed b := by
    rw [State.reg_setReg, State.framed, State.flags, hstacked flagsAddr hspF, hstacked b hb]
  rw [State.reg_setImr]
  by_cases hsp : a = s.dev.spAddr
  · subst hsp
    rw [if_neg hspI.symm, if_pos rfl, State.reg_setReg_other _ _ (Ne.symm hflags), ← hlowered, State.reg_setSp,
      State.pushWord_dev, if_pos rfl]
  · rw [if_neg hsp, hframed a hsp, State.imr, hframed imrAddr hspI]

/-! ## Entry -/

/-- What entry does: pc is at the handler, the registers are those of the frame, and nothing else differs. -/
structure Entered (s t : State) (target : Word) : Prop where
  pc : t.pc = target
  reg : ∀ a, t.reg a =
    if a = s.dev.spAddr then s.sp - 3 else if a = imrAddr then s.framed imrAddr &&& 0x7F#8 else s.framed a
  prog : ∀ a, t.progByte a = s.progByte a
  rest : SameRest s t

theorem State.sameRest_interruptFrame (s : State) : SameRest s s.interruptFrame :=
  ⟨s.interruptFrame_mode, s.interruptFrame_pending, s.interruptFrame_dev, s.interruptFrame_script,
    s.interruptFrame_emitted, s.interruptFrame_executed, s.interruptFrame_sinceRefresh, s.interruptFrame_ended⟩

theorem SameRest.goto (h : SameRest s t) (target : Word) : SameRest s (t.goto target) := h

theorem entered_interruptFrame_goto (hdev : s.dev.wf) (hlow : s.sp - 1 ≠ s.dev.spAddr)
    (hhigh : s.sp - 2 ≠ s.dev.spAddr) (hflags : s.sp - 3 ≠ s.dev.spAddr) (target : Word) :
    Entered s (s.interruptFrame.goto target) target where
  pc := rfl
  reg a := (State.reg_goto _ target a).trans (State.reg_interruptFrame hdev hlow hhigh hflags a)
  prog a := (State.progByte_goto _ target a).trans (s.interruptFrame_progByte a)
  rest := s.sameRest_interruptFrame.goto target

theorem Entered.sp {target : Word} (h : Entered s t target) : t.sp = s.sp - 3 := by
  rw [State.sp, h.rest.dev, h.reg, if_pos rfl]

/-- A register that entry does not use itself holds what the frame has there. -/
theorem Entered.reg_framed {target : Word} (h : Entered s t target) {a : Byte} (hsp : a ≠ s.dev.spAddr)
    (himr : a ≠ imrAddr) : t.reg a = s.framed a := by
  rw [h.reg, if_neg hsp, if_neg himr]

theorem Entered.imr {target : Word} (h : Entered s t target) (hsp : imrAddr ≠ s.dev.spAddr) :
    t.imr = s.framed imrAddr &&& 0x7F#8 := by
  rw [State.imr, h.reg, if_neg hsp, if_pos rfl]

theorem State.interruptStops_noStop (s : State) :
    NoStop s.interruptStops ↔ s.stackCell (s.sp - 2) ∧ s.stackCell (s.sp - 1) ∧ s.stackCell (s.sp - 3) :=
  stackStops_triple_noStop s _ _ _

/-- An entry that goes on makes the frame and jumps, wherever its handler address came from. -/
theorem State.interruptEntry_goto {handler : IrqHandler} (h : s.interruptEntry handler = .next t) :
    NoStop s.interruptStops ∧ ∃ target, t = s.interruptFrame.goto target := by
  obtain ⟨hstops, hentry⟩ := State.interruptEntry_next.mp h
  cases handler with
  | fixed a => exact ⟨hstops, a, hentry⟩
  | vectored v =>
    obtain ⟨-, -, hi, lo, -, -, ht⟩ := hentry
    exact ⟨hstops, _, ht⟩

/-- An entry that goes on had three usable stack cells. -/
theorem entered_of_interruptEntry {handler : IrqHandler} (hdev : s.dev.wf) (h : s.interruptEntry handler = .next t) :
    s.stackCell (s.sp - 1) ∧ s.stackCell (s.sp - 2) ∧ s.stackCell (s.sp - 3) ∧ ∃ target, Entered s t target := by
  obtain ⟨hstops, target, rfl⟩ := State.interruptEntry_goto h
  obtain ⟨hhigh, hlow, hflags⟩ := s.interruptStops_noStop.mp hstops
  exact ⟨hlow, hhigh, hflags, target, entered_interruptFrame_goto hdev hlow.1 hhigh.1 hflags.1 target⟩

/-- With stack cells that may be used a vectored entry reads its vector. -/
theorem State.interruptEntry_vectored (hlow : s.stackCell (s.sp - 1)) (hhigh : s.stackCell (s.sp - 2))
    (hflags : s.stackCell (s.sp - 3)) (v : Word) :
    s.interruptEntry (.vectored v) = s.withProgByte v fun hi => s.withProgByte (v + 1) fun lo =>
      .next (s.interruptFrame.goto (joinBytes hi lo)) :=
  guarded_of_noStop (s.interruptStops_noStop.mpr ⟨hhigh, hlow, hflags⟩) _

/-- Settles O15: the guard is that of three stack cells, a vector is two program reads, and the registers are those of
the frame. -/
theorem interruptEntryFrame : Obligations.InterruptEntryFrame := by
  refine ⟨fun s handler target hdev hlow hhigh hflags htarget => ?_, fun s handler h => ?_,
    fun s v hlow hhigh hflags => ?_⟩
  · intro stacked framed
    have hstops : NoStop s.interruptStops := s.interruptStops_noStop.mpr ⟨hhigh, hlow, hflags⟩
    obtain ⟨hpc, hreg, hprog, hrest⟩ := entered_interruptFrame_goto hdev hlow.1 hhigh.1 hflags.1 target
    refine ⟨_, State.interruptEntry_next.mpr ⟨hstops, ?_⟩, hpc, hreg, hprog, hrest⟩
    cases handler with
    | fixed a => rw [show target = a from htarget]
    | vectored v =>
      obtain ⟨hi, lo, ⟨hpresent, hbyte⟩, ⟨hpresent', hbyte'⟩, rfl⟩ := htarget
      exact ⟨hpresent, hpresent', hi, lo, hbyte, hbyte', rfl⟩
  · refine guarded_stackStops_refuses (cells := [s.sp - 2, s.sp - 1, s.sp - 3]) (fun hstops => h ?_) _
    obtain ⟨hhigh, hlow, hflags⟩ := (stackStops_triple_noStop s _ _ _).mp hstops
    exact ⟨hlow, hhigh, hflags⟩
  · rw [State.interruptEntry_vectored hlow hhigh hflags]
    refine ⟨fun habsent => State.withProgByte_absent habsent _,
      fun hpresent hnone => State.withProgByte_unloaded hpresent hnone _, fun hi hloaded => ?_⟩
    obtain ⟨hpresent, hbyte⟩ := hloaded
    rw [State.withProgByte_some hpresent hbyte]
    exact ⟨fun habsent => State.withProgByte_absent habsent _,
      fun hpresent' hnone => State.withProgByte_unloaded hpresent' hnone _⟩

/-! ## IRET after entry -/

/-- Setting IMR(7) after it was cleared is setting it. -/
theorem set_master_after_clear (imr : Byte) : imr &&& 0x7F#8 ||| 0x80#8 = imr ||| 0x80#8 := by
  revert imr; decide

/-- Settles O17 from O15 and O16: SP points at the byte that holds FLAGS, and the two PC bytes are above it. -/
theorem iretUndoesEntry : Obligations.IretUndoesEntry := by
  intro s t handler hdev h hframe
  obtain ⟨hlow, hhigh, hflags, target, hentered⟩ := entered_of_interruptEntry hdev h
  simp only [List.forall_mem_cons, List.not_mem_nil, false_implies, implies_true, and_true] at hframe
  obtain ⟨⟨hlowF, hlowI⟩, ⟨hhighF, hhighI⟩, ⟨hflagsF, hflagsI⟩⟩ := hframe
  have hspF := flagsAddr_ne_spAddr_of_wf hdev
  have hspI := imrAddr_ne_spAddr_of_wf hdev
  have hdevT := hentered.rest.dev
  have hupper : t.sp + 1 = s.sp - 2 := by rw [hentered.sp]; bv_omega
  have hlower : t.sp + 2 = s.sp - 1 := by rw [hentered.sp]; bv_omega
  have hback : t.sp + 3 = s.sp := by rw [hentered.sp]; bv_omega
  have hcell {a b : Byte} (hab : a = b) (hb : s.stackCell b) : t.stackCell a := by
    rwa [hab, State.stackCell, State.ordinary, hdevT]
  obtain ⟨u, hiret, hpc, hreg, hprog, hrest, -⟩ := iretResult.1 t (by rwa [hdevT]) (hcell hentered.sp hflags)
    (hcell hupper hhigh) (hcell hlower hlow)
  simp only [hupper, hlower, hback, hdevT, if_neg hhighF, if_neg hlowF] at hpc hreg
  have hspU : u.reg s.dev.spAddr = s.sp := by rw [hreg, if_pos rfl]
  have himrU : u.imr = s.imr ||| 0x80#8 := by
    rw [State.imr, hreg, if_neg hspI, if_pos rfl, hentered.imr hspI,
      State.framed_other (Ne.symm hlowI) (Ne.symm hhighI) (Ne.symm hflagsI), set_master_after_clear]
    rfl
  have hflagsU : u.flags = s.flags := by
    rw [State.flags, hreg, if_neg hspF, if_neg (by decide), if_pos rfl, hentered.sp,
      hentered.reg_framed hflags.1 hflagsI, State.framed_flags, State.stacked_other (Ne.symm hlowF) (Ne.symm hhighF)]
    rfl
  have hpcU : u.pc = s.pc := by
    rw [hpc, hentered.reg_framed hhigh.1 hhighI, hentered.reg_framed hlow.1 hlowI, State.framed_high, State.framed_low]
    exact joinBytes_hiByte_loByte s.pc
  have hspBack : u.sp = s.sp := by rw [State.sp, (hentered.rest.trans hrest).dev, hspU]
  refine ⟨u, hiret, hpcU, hflagsU, hspBack, himrU, fun a ha => ?_, fun a => (hprog a).trans (hentered.prog a),
    hentered.rest.trans hrest⟩
  simp only [List.mem_cons, List.not_mem_nil, or_false, not_or] at ha
  obtain ⟨halow, hahigh, haflags, haimr⟩ := ha
  by_cases hasp : a = s.dev.spAddr
  · rw [hasp, hspU]
    rfl
  by_cases haF : a = flagsAddr
  · rw [haF]
    exact hflagsU
  · rw [hreg, if_neg hasp, if_neg haimr, if_neg haF, hentered.reg_framed hasp haimr,
      State.framed_other halow hahigh haflags]

end Sys2Proof.Machine
end

section
/-! O18: the three restart causes. -/

namespace Sys2Proof.Machine

variable {s t : State} {flags : Byte}

/-- What a restart leaves of `s` (10_state.md R47), FLAGS being `flags`. RP, SP and IMR(6:0) have no value in the spec
(log 4). -/
structure Restarted (s t : State) (flags : Byte) : Prop where
  flags : t.flags = flags
  master : masterEnable t.imr = false
  pending : t.pending = []
  mode : t.mode = .running
  pc : t.pc = s.dev.resetPc
  reg : ∀ a, a ∉ [imrAddr, flagsAddr, rpAddr, s.dev.spAddr] → t.reg a = s.reg a
  prog : ∀ a, t.progByte a = s.progByte a
  dev : t.dev = s.dev
  script : t.script = s.script
  emitted : t.emitted = s.emitted
  executed : t.executed = s.executed
  sinceRefresh : t.sinceRefresh = 0

theorem restarted_restart (hdev : s.dev.wf) : Restarted s s.restart s.flags where
  flags := by
    have hrp : flagsAddr ≠ rpAddr := by decide
    have himr : flagsAddr ≠ imrAddr := by decide
    rw [State.flags, State.reg_restart, if_neg (flagsAddr_ne_spAddr_of_wf hdev), if_neg hrp, if_neg himr]
    rfl
  master := by
    have hrp : imrAddr ≠ rpAddr := by decide
    rw [State.imr, State.reg_restart, if_neg (imrAddr_ne_spAddr_of_wf hdev), if_neg hrp, if_pos rfl]
    decide
  pending := rfl
  mode := rfl
  pc := rfl
  reg a ha := by
    simp only [List.mem_cons, List.not_mem_nil, or_false, not_or] at ha
    obtain ⟨himr, -, hrp, hsp⟩ := ha
    rw [State.reg_restart, if_neg hsp, if_neg hrp, if_neg himr]
  prog _ := rfl
  dev := rfl
  script := rfl
  emitted := rfl
  executed := rfl
  sinceRefresh := rfl

/-- A restart that first writes FLAGS leaves the same of the rest. -/
theorem restarted_setFlags_restart (hdev : s.dev.wf) (v : Byte) : Restarted s (s.setFlags v).restart v :=
  have hrestart : Restarted (s.setFlags v) (s.setFlags v).restart (s.setFlags v).flags := restarted_restart hdev
  { hrestart with
    flags := hrestart.flags.trans (s.flags_setFlags v)
    reg := fun a ha => (hrestart.reg a ha).trans <| State.reg_setReg_other s v fun h => ha (by simp [h]) }

/-- A timeout with WDTF still set is refused (60_exceptions.md R324). -/
theorem State.wdtTimeout_refused (h : flagWdt s.flags = true) : s.wdtTimeout = .refused .staleTimeout := by
  rw [State.wdtTimeout, h]
  rfl

/-- Settles O18: each cause is a restart, after a write of FLAGS or without one. -/
theorem restartCauses : Obligations.RestartCauses := by
  unfold Obligations.RestartCauses
  intro restarted
  have hrestarted {s t : State} {f : Byte} (h : Restarted s t f) : restarted s t f :=
    ⟨h.flags, h.master, h.pending, h.mode, h.pc, h.reg, h.prog, h.dev, h.script, h.emitted, h.executed, h.sinceRefresh⟩
  exact ⟨fun s hdev => hrestarted (restarted_setFlags_restart hdev _),
    fun s hdev hwdt => ⟨_, State.wdtTimeout_next.mpr ⟨hwdt, rfl⟩, hrestarted (restarted_setFlags_restart hdev _)⟩,
    fun s => State.wdtTimeout_refused, fun s hdev _ => hrestarted (restarted_restart hdev)⟩

end Sys2Proof.Machine
end

section
/-! O19, O20: how a stopped and a halted machine go on. -/

namespace Sys2Proof.Machine

variable {s t : State} {flags : Byte}

/-- The watch-dog runs but in STOP, and there where the device says so (60_exceptions.md R322, log 41). -/
theorem State.wdtRuns_iff (s : State) : s.wdtRuns = true ↔ (s.mode = .stopped → s.dev.wdtInStop = true) := by
  unfold State.wdtRuns
  cases s.mode <;> simp

/-- A timeout is due exactly where `WDT_PERIOD` is finite, at least that long has passed, and the watch-dog runs
(60_exceptions.md R324). -/
theorem State.wdtDue_iff (s : State) : s.wdtDue = true ↔ ∃ period, s.dev.wdtPeriod = some period ∧
    period ≤ s.sinceRefresh ∧ (s.mode = .stopped → s.dev.wdtInStop = true) := by
  unfold State.wdtDue
  cases s.dev.wdtPeriod with
  | none => simp
  | some period => simp [s.wdtRuns_iff, and_comm]

/-- Nothing of the machine that a restart keeps is changed by reaching the boundary. -/
theorem Restarted.of_arrive (h : Restarted s.arrive t flags) :
    (∀ a, t.progByte a = s.progByte a) ∧ t.mode = .running ∧ t.pc = s.dev.resetPc ∧ t.pending = [] ∧
      masterEnable t.imr = false ∧ ∀ a, a ∉ [imrAddr, flagsAddr, rpAddr, s.dev.spAddr] → t.reg a = s.reg a := by
  have hreg := h.reg
  rw [State.arrive_dev] at hreg
  exact ⟨fun a => (h.prog a).trans (s.arrive_progByte a), h.mode, by rw [h.pc, State.arrive_dev], h.pending, h.master,
    fun a ha => (hreg a ha).trans (s.arrive_reg a)⟩

theorem State.sameMachine_arrive (s : State) : SameMachine s s.arrive :=
  ⟨s.arrive_reg, s.arrive_progByte, s.arrive_pc, s.arrive_mode, s.arrive_dev, s.arrive_emitted, s.arrive_executed⟩

/-- A machine that only counts at a boundary shows nothing of it to the program (60_exceptions.md R322, R323). -/
theorem State.sameMachine_idle_arrive (s : State) : SameMachine s s.arrive.idle := by
  rw [s.arrive.idle_eq.1]
  exact s.sameMachine_arrive

/-- What a step does to a machine that does not run: nothing that a program sees, a restart by one of its causes, or an
interrupt entry. -/
theorem step_of_not_running (hdev : s.dev.wf) (hm : s.mode ≠ .running) (h : step s = .next t) :
    SameMachine s t ∨
    ((∃ f, Restarted s.arrive t f) ∧
      (s.boundary.resetPin = true ∨ s.wdtDue = true ∨ s.mode = .stopped ∧ s.boundary.stopRecovery = true)) ∨
    ∃ src, s.arrive.interruptDue = some src ∧ s.arrive.takeInterrupt src = .next t := by
  have hdev' : s.arrive.dev.wf := s.arrive_dev.symm ▸ hdev
  rcases step_next h with ⟨-, rfl⟩ |
    ⟨-, ⟨hpin, rfl⟩ | ⟨hdue, -, rfl⟩ | ⟨hrecovery, hstopped, rfl⟩ | htake | ⟨-, rfl⟩ | ⟨hrun, -⟩ | ⟨hrun, -⟩⟩
  · exact .inl ⟨fun _ => rfl, fun _ => rfl, rfl, rfl, rfl, rfl, rfl⟩
  · exact .inr (.inl ⟨⟨_, restarted_setFlags_restart hdev' _⟩, .inl hpin⟩)
  · exact .inr (.inl ⟨⟨_, restarted_setFlags_restart hdev' _⟩, .inr (.inl hdue)⟩)
  · exact .inr (.inl ⟨⟨_, restarted_restart hdev'⟩, .inr (.inr ⟨hstopped, hrecovery⟩)⟩)
  · exact .inr (.inr htake)
  · exact .inl s.sameMachine_idle_arrive
  · exact absurd hrun hm
  · exact absurd hrun hm

/-- Settles O19: a stopped machine takes no interrupt, so it stays or restarts. -/
theorem leavingStopped : Obligations.LeavingStopped := by
  intro s t hdev hm h
  rcases step_of_not_running hdev (by simp [hm]) h with
    ⟨hreg, hprog, hpc, hmode, -⟩ | ⟨⟨_, hrestarted⟩, hcause⟩ | ⟨src, hdue, -⟩
  · exact ⟨hprog, .inl ⟨hmode.trans hm, hpc, hreg⟩⟩
  · obtain ⟨hprog, hmode, hpc, hpending, hmaster, hreg⟩ := hrestarted.of_arrive
    refine ⟨hprog, .inr ⟨hmode, hpc, hpending, hmaster, hreg, ?_⟩⟩
    rcases hcause with hpin | hdue | ⟨-, hrecovery⟩
    · exact .inl hpin
    · obtain ⟨period, hperiod, -, hruns⟩ := s.wdtDue_iff.mp hdue
      exact .inr (.inl ⟨by simp [hperiod], hruns hm⟩)
    · exact .inr (.inr hrecovery)
  · have hnone : s.arrive.interruptDue = none := State.interruptDue_of_stopped (s.arrive_mode.trans hm)
    simp [hnone] at hdue

/-- Whatever the device, the machine runs after it took a source. -/
theorem State.mode_of_takeInterrupt {src : IrqSource} (h : s.takeInterrupt src = .next t) : t.mode = .running := by
  obtain ⟨-, target, rfl⟩ := State.interruptEntry_goto h
  simp

/-- What taking a source leaves in the fields that it changes (60_exceptions.md R305, R307). -/
theorem State.takeInterrupt_next {src : IrqSource} (hdev : s.dev.wf) (h : s.takeInterrupt src = .next t) :
    t.mode = .running ∧ t.sp = s.sp - 3 ∧ t.pending = s.pending.filter (· ≠ src.name) := by
  obtain ⟨-, -, -, target, hentered⟩ := entered_of_interruptEntry
    (s := { s with pending := s.pending.filter (· ≠ src.name), mode := .running }) hdev h
  obtain ⟨hmode, hpending, -⟩ := hentered.rest
  exact ⟨hmode, hentered.sp, hpending⟩

/-- Settles O20: a recovery is given only in Stopped, so a halted machine stays, restarts by one of the other two
causes, or takes what the check finds. -/
theorem leavingHalted : Obligations.LeavingHalted := by
  intro s t hdev hm h
  rcases step_of_not_running hdev (by simp [hm]) h with
    ⟨hreg, -, hpc, hmode, -⟩ | ⟨⟨_, hrestarted⟩, hcause⟩ | ⟨src, hdue, htake⟩
  · exact .inl ⟨hmode.trans hm, hpc, hreg⟩
  · obtain ⟨-, hmode, hpc, hpending, hmaster, hreg⟩ := hrestarted.of_arrive
    refine .inr (.inl ⟨hmode, hpc, hpending, hmaster, hreg, ?_⟩)
    rcases hcause with hpin | hdue | ⟨hstopped, -⟩
    · exact .inl hpin
    · exact .inr hdue
    · simp [hm] at hstopped
  · obtain ⟨-, hsrc, -⟩ := State.interruptDue_some hdue
    obtain ⟨hirq, hpending, hmaster, henabled⟩ := State.mem_takeable.mp hsrc
    have himr : s.arrive.imr = s.imr := s.arrive_reg imrAddr
    have hsp : s.arrive.sp = s.sp := by simp [State.sp]
    obtain ⟨hmode, hspT, hpendingT⟩ := State.takeInterrupt_next (s.arrive_dev.symm ▸ hdev) htake
    rw [State.arrive_dev] at hirq
    rw [himr] at hmaster henabled
    exact .inr (.inr ⟨hmode, hmaster, hsp ▸ hspT, src, hirq, hpending, henabled, hpendingT⟩)

end Sys2Proof.Machine
end

section
/-! O12: what the environment does at a boundary, and what follows. -/

namespace Sys2Proof.Machine

variable {s : State}

/-! ## Requests -/

/-- Latching does not look at the script. -/
theorem State.latch_withScript (script : List Boundary) (es : List LineEvent) :
    State.latch { s with script := script } es = { s.latch es with script := script } := by
  induction es generalizing s with
  | nil => rfl
  | cons e es ih =>
    cases e with
    | request n =>
      have hrequest : State.request { s with script := script } n = { s.request n with script := script } := by
        unfold State.request
        dsimp only
        split <;> rfl
      rw [State.latch, State.latch, hrequest, ih]
    | withdraw n => exact ih (s := s.withdraw n)

theorem State.arrive_pending (s : State) : s.arrive.pending = (s.latch s.boundary.requests).pending := by
  rw [State.arrive, State.latch_withScript]

/-- A request for a source makes it pending; a number that names none does nothing (60_exceptions.md R303, log 42). -/
theorem State.mem_pending_request (s : State) (n m : Nat) :
    m ∈ (s.request n).pending ↔ (m = n ∧ isSource s.dev n = true) ∨ m ∈ s.pending := by
  unfold State.request
  split
  next h =>
    simp only [Bool.or_eq_true, Bool.not_eq_true', List.contains_iff_mem] at h
    refine ⟨.inr, fun hm => hm.elim ?_ id⟩
    rintro ⟨rfl, hsource⟩
    exact h.resolve_left (by simp [hsource])
  next h =>
    simp only [Bool.or_eq_true, Bool.not_eq_true', not_or, Bool.not_eq_false] at h
    simp [h.1, or_comm]

theorem State.mem_pending_withdraw (s : State) (n m : Nat) :
    m ∈ (s.withdraw n).pending ↔ m ≠ n ∧ m ∈ s.pending := by
  simp [State.withdraw, and_comm]

/-! ## Restarts -/

/-- A step of a run that has not ended, by what the restart check answers. -/
theorem step_of_not_ended (he : s.ended = false) : step s = s.arrive.restartOr s.boundary State.proceed := by
  rw [step, he]
  rfl

theorem step_of_resetPin (he : s.ended = false) (h : s.boundary.resetPin = true) :
    step s = .next s.arrive.resetPin := by
  rw [step_of_not_ended he, State.restartOr, if_pos h]

theorem step_of_wdtDue (he : s.ended = false) (hpin : s.boundary.resetPin = false) (hdue : s.wdtDue = true)
    (hheld : s.boundary.wdtHeld = false) : step s = s.arrive.wdtTimeout := by
  have htimeout : (s.arrive.wdtDue && !s.boundary.wdtHeld) = true := by simp [hdue, hheld]
  rw [step_of_not_ended he, State.restartOr, if_neg (by simp [hpin]), if_pos htimeout]

theorem step_of_stopRecovery (he : s.ended = false) (hpin : s.boundary.resetPin = false)
    (hdue : s.wdtDue = false ∨ s.boundary.wdtHeld = true) (hrecovery : s.boundary.stopRecovery = true)
    (hm : s.mode = .stopped) : step s = .next s.arrive.stopRecovery := by
  have htimeout : ¬(s.arrive.wdtDue && !s.boundary.wdtHeld) = true := by
    rcases hdue with hdue | hdue <;> simp [hdue]
  rw [step_of_not_ended he, State.restartOr, if_neg (by simp [hpin]), if_neg htimeout,
    if_pos (by simp [hrecovery, hm])]

/-! ## What follows without one -/

theorem State.proceed_of_not_running (hi : s.interruptDue = none) (hm : s.mode ≠ .running) :
    s.proceed = .next s.idle := by
  rw [State.proceed, hi]
  cases hmode : s.mode with
  | running => exact absurd hmode hm
  | halted | stopped => rfl

theorem State.proceed_at_end (hi : s.interruptDue = none) (hm : s.mode = .running) (he : s.dev.endPc = some s.pc) :
    s.proceed = .next s.finish := by
  simp [State.proceed, hi, hm, State.atEnd, he]

/-- What a halted or stopped machine counts at a boundary (log 20). -/
theorem State.sinceRefresh_idle (s : State) : s.idle.sinceRefresh = s.sinceRefresh +
    if s.dev.wdtPeriod ≠ none ∧ (s.mode = .stopped → s.dev.wdtInStop = true) then 1 else 0 := by
  unfold State.idle
  cases hperiod : s.dev.wdtPeriod with
  | none => simp
  | some period =>
    simp only [s.wdtRuns_iff, ne_eq, reduceCtorEq, not_false_eq_true, true_and]
    split <;> rfl

theorem State.idle_pending (s : State) : s.idle.pending = s.pending := by rw [s.idle_eq.1]
theorem State.idle_ended (s : State) : s.idle.ended = s.ended := by rw [s.idle_eq.1]

/-- Settles O12: the boundary by `arrive`, the restarts in the order of `restartOr`, the rest by `proceed`. -/
theorem stepDeliversEvents : Obligations.StepDeliversEvents := by
  refine ⟨fun s => ⟨s.sameMachine_arrive, s.arrive_script, s.arrive_sinceRefresh, s.arrive_ended, s.arrive_pending⟩,
    fun s n m => ⟨s.mem_pending_request n m, s.mem_pending_withdraw n m, rfl⟩, State.latch_append, State.wdtDue_iff,
    fun s => step_of_resetPin, fun s => step_of_wdtDue, fun s => step_of_stopRecovery, fun s he hquiet => ?_⟩
  rw [step_of_noRestart he hquiet]
  refine ⟨fun src => State.proceed_of_interruptDue,
    fun hnone => ⟨fun hm => ?_, fun hm hend => ?_, fun hm hend => ?_⟩⟩
  · refine ⟨_, State.proceed_of_not_running hnone (by simpa using hm), s.sameMachine_idle_arrive,
      s.arrive.idle_pending, ?_, ?_⟩
    · rw [State.idle_ended, State.arrive_ended, he]
    · rw [State.sinceRefresh_idle, State.arrive_sinceRefresh, State.arrive_dev, State.arrive_mode]
  · exact State.proceed_at_end hnone (by simpa using hm) (by simpa using hend)
  · exact State.proceed_running hnone (by simpa using hm) (by simpa [State.atEnd] using hend)

end Sys2Proof.Machine
end

section
/-! O13: the ends of a run that have a result. -/

namespace Sys2Proof.Machine

variable {s t : State}

/-! ## The coming boundary -/

/-- The coming boundary is an entry of the script, or one at which the environment does nothing. -/
theorem State.boundary_cases (s : State) : s.boundary ∈ s.script ∨ s.boundary = {} := by
  unfold State.boundary
  cases s.script with
  | nil => exact .inr rfl
  | cons b bs => exact .inl List.mem_cons_self

/-- What holds of every entry and of a boundary at which nothing is done holds of the coming one. -/
theorem State.boundary_of_script {p : Boundary → Prop} (h : ∀ b ∈ s.script, p b) (hquiet : p {}) : p s.boundary := by
  rcases s.boundary_cases with hb | hb
  · exact h _ hb
  · exact hb ▸ hquiet

/-- What holds of every entry holds of the entries after the coming one. -/
theorem State.script_arrive {p : Boundary → Prop} (h : ∀ b ∈ s.script, p b) : ∀ b ∈ s.arrive.script, p b := by
  rw [State.arrive_script]
  exact fun b hb => h b (List.mem_of_mem_tail hb)

/-- What is pending after latching was pending or is requested. -/
theorem State.mem_pending_latch {es : List LineEvent} {n : Nat} (h : n ∈ (s.latch es).pending) :
    n ∈ s.pending ∨ .request n ∈ es := by
  induction es generalizing s with
  | nil => exact .inl h
  | cons e es ih =>
    cases e with
    | request m =>
      rcases ih (s := s.request m) h with h | h
      · rcases (s.mem_pending_request m n).mp h with ⟨rfl, -⟩ | h
        · exact .inr List.mem_cons_self
        · exact .inl h
      · exact .inr (List.mem_cons_of_mem _ h)
    | withdraw m =>
      rcases ih (s := s.withdraw m) h with h | h
      · obtain ⟨-, h⟩ := (s.mem_pending_withdraw m n).mp h
        exact .inl h
      · exact .inr (List.mem_cons_of_mem _ h)

/-! ## A machine that stays -/

theorem SameMachine.refl (s : State) : SameMachine s s := ⟨fun _ => rfl, fun _ => rfl, rfl, rfl, rfl, rfl, rfl⟩

theorem step_ended (he : s.ended = true) : step s = .next s := by
  rw [step, he]
  rfl

/-- A machine that does not run and meets neither a restart nor an interrupt shows the program nothing: its run has
ended, or it only counts. -/
theorem step_stays {p : State → Prop} (hs : p s) (hidle : p s.arrive.idle) (hquiet : s.noRestart)
    (hi : s.arrive.interruptDue = none) (hm : s.mode ≠ .running) : ∃ t, step s = .next t ∧ p t ∧ SameMachine s t := by
  cases he : s.ended with
  | true => exact ⟨s, step_ended he, hs, .refl s⟩
  | false =>
    have hstep : step s = .next s.arrive.idle := by
      rw [step_of_noRestart he hquiet, State.proceed_of_not_running hi (by simpa using hm)]
    exact ⟨_, hstep, hidle, s.sameMachine_idle_arrive⟩

/-! ## The quiescent halt -/

theorem State.imr_arrive (s : State) : s.arrive.imr = s.imr := s.arrive_reg imrAddr

theorem State.quiescentHalt_idle (h : s.quiescentHalt) : s.idle.quiescentHalt := by
  rw [s.idle_eq.1]
  exact h

/-- No source that is enabled becomes pending at the boundary. -/
theorem State.quiescentHalt_arrive (h : s.quiescentHalt) : s.arrive.quiescentHalt := by
  obtain ⟨hm, hperiod, hpin, hsources⟩ := h
  rw [State.quiescentHalt, State.arrive_mode, State.arrive_dev, State.imr_arrive]
  refine ⟨hm, hperiod, State.script_arrive hpin, fun src hsrc hmaster henabled => ?_⟩
  obtain ⟨hpending, hrequests⟩ := hsources src hsrc hmaster henabled
  refine ⟨fun hmem => ?_, State.script_arrive hrequests⟩
  rw [State.arrive_pending] at hmem
  exact (State.mem_pending_latch hmem).elim hpending (State.boundary_of_script hrequests (by simp))

theorem State.interruptDue_of_quiescentHalt (h : s.quiescentHalt) : s.interruptDue = none := by
  obtain ⟨hm, -, -, hsources⟩ := h
  refine (State.interruptDue_eq_none_iff (by simp [hm])).mpr fun src hsrc => ?_
  rintro ⟨hpending, hmaster, henabled⟩
  obtain ⟨hnot, -⟩ := hsources src hsrc hmaster henabled
  exact hnot hpending

theorem State.noRestart_of_quiescentHalt (h : s.quiescentHalt) : s.noRestart := by
  obtain ⟨hm, hperiod, hpin, -⟩ := h
  have hdue : s.wdtDue = false := by rw [State.wdtDue, hperiod]
  exact ⟨State.boundary_of_script hpin rfl, .inl hdue, .inr (by simp [hm])⟩

/-! ## The quiescent stop -/

theorem State.quiescentStop_idle (h : s.quiescentStop) : s.idle.quiescentStop := by
  rw [s.idle_eq.1]
  exact h

theorem State.quiescentStop_arrive (h : s.quiescentStop) : s.arrive.quiescentStop := by
  obtain ⟨hm, hwdt, hscript⟩ := h
  rw [State.quiescentStop, State.arrive_mode, State.arrive_dev]
  exact ⟨hm, hwdt, State.script_arrive hscript⟩

theorem State.noRestart_of_quiescentStop (h : s.quiescentStop) : s.noRestart := by
  obtain ⟨hm, hwdt, hscript⟩ := h
  obtain ⟨hpin, hrecovery⟩ := State.boundary_of_script hscript ⟨rfl, rfl⟩
  have hdue : s.wdtDue = false := by
    rw [Bool.eq_false_iff, Ne, s.wdtDue_iff]
    rintro ⟨period, hperiod, -, hruns⟩
    rcases hwdt with hnone | hstops
    · simp [hnone] at hperiod
    · simp [hruns hm] at hstops
  exact ⟨hpin, .inl hdue, .inl hrecovery⟩

/-! ## The end at `END_PC` -/

/-- A run that is at `END_PC` and not interrupted there has ended after the step, before the fetch. -/
theorem step_at_end (hm : s.mode = .running) (hb : s.boundary = {}) (hdue : s.wdtDue = false)
    (hi : s.interruptDue = none) (hend : s.dev.endPc = some s.pc) :
    ∃ t, step s = .next t ∧ SameMachine s t ∧ t.pending = s.pending ∧ t.ended = true := by
  cases he : s.ended with
  | true => exact ⟨s, step_ended he, .refl s, rfl, he⟩
  | false =>
    refine ⟨State.finish { s with script := s.script.tail }, ?_, .refl s, rfl, rfl⟩
    rw [step_of_noRestart he ⟨by rw [hb], .inl hdue, .inl (by rw [hb])⟩, State.arrive_of_quiet (by rw [hb])]
    exact State.proceed_at_end hi hm hend

/-! ## SMRF in Stopped -/

theorem flagSmr_set (f : Byte) : flagSmr (f ||| 0x01#8) = true := by simp [flagSmr]

/-- Only STOP stops a running machine, and it sets SMRF (47_cpu_control.md R279). -/
theorem exec_keeps_stopped_smr {i : Instr} (hm : s.mode = .running) (h : exec i s = .next t) (ht : t.mode = .stopped) :
    flagSmr t.flags = true := by
  by_cases hstop : i = .stop
  · subst hstop
    obtain ⟨-, rfl⟩ := exec_stop_next.mp h
    have hflags : (s.setFlags (s.flags ||| 0x01#8)).flags = s.flags ||| 0x01#8 := s.flags_setFlags _
    exact (congrArg flagSmr hflags).trans (flagSmr_set _)
  · obtain ⟨-, -, -, -, -, hmode, -⟩ := instructionsLeaveTheRest i s t h
    split at hmode
    · simp [hmode] at ht
    · exact absurd rfl hstop
    · simp [hmode, hm] at ht

/-- Every step keeps that a stopped machine has SMRF = 1: it stays as it is, or runs afterwards, or executed STOP. -/
theorem step_keeps_stopped_smr (hs : s.mode = .stopped → flagSmr s.flags = true) (h : step s = .next t)
    (ht : t.mode = .stopped) : flagSmr t.flags = true := by
  have hstays (hsame : SameMachine s t) : flagSmr t.flags = true := by
    obtain ⟨hreg, -, -, hmode, -⟩ := hsame
    rw [State.flags, hreg]
    exact hs (hmode.symm.trans ht)
  rcases step_next h with ⟨-, rfl⟩ |
    ⟨-, ⟨-, rfl⟩ | ⟨-, -, rfl⟩ | ⟨-, -, rfl⟩ | ⟨src, -, htake⟩ | ⟨-, rfl⟩ | ⟨-, -, rfl⟩ | ⟨hm, i, hexec⟩⟩
  · exact hs ht
  · cases ht
  · cases ht
  · cases ht
  · simp [State.mode_of_takeInterrupt htake] at ht
  · exact hstays s.sameMachine_idle_arrive
  · exact hstays s.sameMachine_finish_arrive
  · exact exec_keeps_stopped_smr (s := s.arrive.countInstruction) (s.arrive_mode.trans hm) hexec ht

/-- Settles O13: the two quiescent states are kept by reaching a boundary and by counting there. -/
theorem quiescentStatesStay : Obligations.QuiescentStatesStay := by
  refine ⟨fun s h => ?_, fun s h => ?_, fun s hm hb hdue hi hend => ?_, fun s t => step_keeps_stopped_smr⟩
  · exact step_stays h (State.quiescentHalt_idle (State.quiescentHalt_arrive h)) (State.noRestart_of_quiescentHalt h)
      (State.interruptDue_of_quiescentHalt (State.quiescentHalt_arrive h)) (by simp [h.1])
  · exact step_stays h (State.quiescentStop_idle (State.quiescentStop_arrive h)) (State.noRestart_of_quiescentStop h)
      (State.interruptDue_of_stopped (s.arrive_mode.trans h.1)) (by simp [h.1])
  · obtain ⟨t, hstep, hsame, hpending, hended⟩ := step_at_end hm hb hdue hi hend
    exact ⟨t, hstep, hsame, hpending, hended, step_ended hended⟩

end Sys2Proof.Machine
end

section
/-! SUPPORT. The rows of the op code map by the groups of Sys2Proof/Machine/Forms.lean: a statement about every
instruction that names those groups is a case analysis over `instr_group`. -/

namespace Sys2Proof.Machine

/-- The groups there are; `direct` are the instructions that nothing ever stops. -/
inductive InstrGroup : Instr → Prop where
  | combine (f : TwoForm) {i} (h : i ∈ [addInstr f, adcInstr f, subInstr f, sbcInstr f, andInstr f, orInstr f,
      xorInstr f]) : InstrGroup i
  | test (f : TwoForm) {i} (h : i ∈ [cpInstr f, tcmInstr f, tmInstr f]) : InstrGroup i
  | modify (f : OneForm) {i} (h : i ∈ [decInstr f, daInstr f, comInstr f, rlInstr f, rlcInstr f, rrInstr f, rrcInstr f,
      sraInstr f, swapInstr f]) : InstrGroup i
  | inc (f : IncForm) : InstrGroup (incInstr f)
  | modifyPair (f : OneForm) {i} (h : i ∈ [incwInstr f, decwInstr f]) : InstrGroup i
  | load (f : LoadForm) : InstrGroup (loadInstr f)
  | pop (f : OneForm) : InstrGroup (popInstr f)
  | push (f : OneForm) : InstrGroup (pushInstr f)
  | reserved {b i} (h : (b, i) ∈ reservedInstrs) : InstrGroup i
  | direct {i} (h : ∀ s, ∃ t, exec i s = .next t) : InstrGroup i
  | ldc_r_Irr (n p : Nibble) : InstrGroup (.ldc_r_Irr n p)
  | ldc_Irr_r (hi lo : Nibble) : InstrGroup (.ldc_Irr_r hi lo)
  | ldci_Ir_Irr (n p : Nibble) : InstrGroup (.ldci_Ir_Irr n p)
  | ldci_Irr_Ir (hi lo : Nibble) : InstrGroup (.ldci_Irr_Ir hi lo)
  | call_DA (target : Word) : InstrGroup (.call_DA target)
  | call_IRR (b : Byte) : InstrGroup (.call_IRR b)
  | jp_IRR (b : Byte) : InstrGroup (.jp_IRR b)
  | djnz_r_RA (n : Nibble) (offset : Byte) : InstrGroup (.djnz_r_RA n offset)
  | ret : InstrGroup .ret
  | iret : InstrGroup .iret
  | stop : InstrGroup .stop

theorem InstrGroup.of_reserved {i : Instr} (h : i ∈ reservedInstrs.map Prod.snd) : InstrGroup i := by
  obtain ⟨⟨b, _⟩, hb, rfl⟩ := List.mem_map.mp h
  exact .reserved hb

/-- Every row of the op code map is in a group. -/
theorem instr_group (i : Instr) : InstrGroup i := by
  cases i with
  | add_r_r d x | adc_r_r d x | sub_r_r d x | sbc_r_r d x | and_r_r d x | or_r_r d x | xor_r_r d x =>
    exact .combine (.r_r d x) (by simp [addInstr, adcInstr, subInstr, sbcInstr, andInstr, orInstr, xorInstr])
  | add_r_Ir d x | adc_r_Ir d x | sub_r_Ir d x | sbc_r_Ir d x | and_r_Ir d x | or_r_Ir d x | xor_r_Ir d x =>
    exact .combine (.r_Ir d x) (by simp [addInstr, adcInstr, subInstr, sbcInstr, andInstr, orInstr, xorInstr])
  | add_R_R d x | adc_R_R d x | sub_R_R d x | sbc_R_R d x | and_R_R d x | or_R_R d x | xor_R_R d x =>
    exact .combine (.R_R d x) (by simp [addInstr, adcInstr, subInstr, sbcInstr, andInstr, orInstr, xorInstr])
  | add_R_IR d x | adc_R_IR d x | sub_R_IR d x | sbc_R_IR d x | and_R_IR d x | or_R_IR d x | xor_R_IR d x =>
    exact .combine (.R_IR d x) (by simp [addInstr, adcInstr, subInstr, sbcInstr, andInstr, orInstr, xorInstr])
  | add_R_IM d v | adc_R_IM d v | sub_R_IM d v | sbc_R_IM d v | and_R_IM d v | or_R_IM d v | xor_R_IM d v =>
    exact .combine (.R_IM d v) (by simp [addInstr, adcInstr, subInstr, sbcInstr, andInstr, orInstr, xorInstr])
  | add_IR_IM d v | adc_IR_IM d v | sub_IR_IM d v | sbc_IR_IM d v | and_IR_IM d v | or_IR_IM d v | xor_IR_IM d v =>
    exact .combine (.IR_IM d v) (by simp [addInstr, adcInstr, subInstr, sbcInstr, andInstr, orInstr, xorInstr])
  | cp_r_r d x | tcm_r_r d x | tm_r_r d x => exact .test (.r_r d x) (by simp [cpInstr, tcmInstr, tmInstr])
  | cp_r_Ir d x | tcm_r_Ir d x | tm_r_Ir d x => exact .test (.r_Ir d x) (by simp [cpInstr, tcmInstr, tmInstr])
  | cp_R_R d x | tcm_R_R d x | tm_R_R d x => exact .test (.R_R d x) (by simp [cpInstr, tcmInstr, tmInstr])
  | cp_R_IR d x | tcm_R_IR d x | tm_R_IR d x => exact .test (.R_IR d x) (by simp [cpInstr, tcmInstr, tmInstr])
  | cp_R_IM d v | tcm_R_IM d v | tm_R_IM d v => exact .test (.R_IM d v) (by simp [cpInstr, tcmInstr, tmInstr])
  | cp_IR_IM d v | tcm_IR_IM d v | tm_IR_IM d v => exact .test (.IR_IM d v) (by simp [cpInstr, tcmInstr, tmInstr])
  | dec_R b | da_R b | com_R b | rl_R b | rlc_R b | rr_R b | rrc_R b | sra_R b | swap_R b =>
    exact .modify (.R b)
      (by simp [decInstr, daInstr, comInstr, rlInstr, rlcInstr, rrInstr, rrcInstr, sraInstr, swapInstr])
  | dec_IR b | da_IR b | com_IR b | rl_IR b | rlc_IR b | rr_IR b | rrc_IR b | sra_IR b | swap_IR b =>
    exact .modify (.IR b)
      (by simp [decInstr, daInstr, comInstr, rlInstr, rlcInstr, rrInstr, rrcInstr, sraInstr, swapInstr])
  | inc_r n => exact .inc (.r n)
  | inc_R b => exact .inc (.R b)
  | inc_IR b => exact .inc (.IR b)
  | decw_RR b | incw_RR b => exact .modifyPair (.R b) (by simp [decwInstr, incwInstr])
  | decw_IR b | incw_IR b => exact .modifyPair (.IR b) (by simp [decwInstr, incwInstr])
  | clr_R b => exact .load (.clr_R b)
  | clr_IR b => exact .load (.clr_IR b)
  | ld_r_IM d v => exact .load (.r_IM d v)
  | ld_r_R d x => exact .load (.r_R d x)
  | ld_R_r d x => exact .load (.R_r d x)
  | ld_r_X d x o => exact .load (.r_X d x o)
  | ld_X_r y x o => exact .load (.X_r y x o)
  | ld_r_Ir d x => exact .load (.r_Ir d x)
  | ld_Ir_r d x => exact .load (.Ir_r d x)
  | ld_R_R d x => exact .load (.R_R d x)
  | ld_R_IR d x => exact .load (.R_IR d x)
  | ld_R_IM d v => exact .load (.R_IM d v)
  | ld_IR_IM d v => exact .load (.IR_IM d v)
  | ld_IR_R d x => exact .load (.IR_R d x)
  | pop_R b => exact .pop (.R b)
  | pop_IR b => exact .pop (.IR b)
  | push_R b => exact .push (.R b)
  | push_IR b => exact .push (.IR b)
  | ccf | rcf | scf | di | ei | nop | halt | wdt | srp_IM | jp_cc_DA | jr_cc_RA => exact .direct fun _ => ⟨_, rfl⟩
  | reserved_0F | reserved_1F | reserved_2F | reserved_3F | reserved_4F
  | reserved_82 | reserved_83 | reserved_84 | reserved_85 | reserved_86 | reserved_87
  | reserved_92 | reserved_93 | reserved_94 | reserved_95 | reserved_96 | reserved_97
  | reserved_C4 | reserved_C5 | reserved_C6 | reserved_D5 | reserved_E2
  | reserved_F2 | reserved_F4 | reserved_F6 | reserved_F7 =>
    exact .of_reserved (by simp [reservedInstrs])
  | ldc_r_Irr n p => exact .ldc_r_Irr n p
  | ldc_Irr_r hi lo => exact .ldc_Irr_r hi lo
  | ldci_Ir_Irr n p => exact .ldci_Ir_Irr n p
  | ldci_Irr_Ir hi lo => exact .ldci_Irr_Ir hi lo
  | call_DA target => exact .call_DA target
  | call_IRR b => exact .call_IRR b
  | jp_IRR b => exact .jp_IRR b
  | djnz_r_RA n offset => exact .djnz_r_RA n offset
  | ret => exact .ret
  | iret => exact .iret
  | stop => exact .stop

end Sys2Proof.Machine
end

section
/-! O57: where an instruction stops on a full device. -/

namespace Sys2Proof.Machine

/-- The instructions with a register pair (10_state.md R23). -/
def UsesPair (i : Instr) : Prop :=
  (∃ f, i = incwInstr f ∨ i = decwInstr f) ∨ (∃ b, i = .jp_IRR b ∨ i = .call_IRR b) ∨
    ∃ n p, i ∈ [Instr.ldc_r_Irr n p, .ldc_Irr_r n p, .ldci_Ir_Irr n p, .ldci_Irr_Ir n p]

/-- The answers that an instruction may give on a full device: a next state, the model's fault (log 5), and each reason
to refuse by the instructions that its rule names. -/
inductive NamedAnswer (s : State) (i : Instr) : Result → Prop where
  | next (t : State) : NamedAnswer s i (.next t)
  | unprogrammed (h : ∃ n p, i = .ldc_r_Irr n p ∨ i = .ldci_Ir_Irr n p) : NamedAnswer s i (.fault .unprogrammed)
  | oddPair (h : UsesPair i) : NamedAnswer s i (.refused .oddPair)
  | flagsDestination (h : (∃ f, f.dst.address s = flagsAddr ∧
        i ∈ [addInstr f, adcInstr f, subInstr f, sbcInstr f, andInstr f, orInstr f, xorInstr f]) ∨
      (∃ f, f.loc.address s = flagsAddr ∧
        i ∈ [decInstr f, daInstr f, comInstr f, rlInstr f, rlcInstr f, rrInstr f, rrcInstr f, sraInstr f, swapInstr f,
          incwInstr f, decwInstr f]) ∨
      ∃ f, f.loc.address s = flagsAddr ∧ i = incInstr f) : NamedAnswer s i (.refused .flagsDestination)
  | spOperand (h : ∃ f, f.loc.address s = s.dev.spAddr ∧ (i = popInstr f ∨ i = pushInstr f)) :
      NamedAnswer s i (.refused .spOperand)
  | stackOnSp (h : (∃ a, i = .call_DA a) ∨ (∃ b, i = .call_IRR b) ∨ (∃ f, i = popInstr f ∨ i = pushInstr f) ∨
        i = .ret ∨ i = .iret) (hsp : s.dev.spAddr ∈ [s.sp - 2, s.sp - 1, s.sp, s.sp + 1, s.sp + 2]) :
      NamedAnswer s i (.refused .stackOnSp)
  | ldciOverlap (h : ∃ n p, i = .ldci_Ir_Irr n p ∨ i = .ldci_Irr_Ir n p) : NamedAnswer s i (.refused .ldciOverlap)
  | staleStop (h : i = .stop) (hstale : flagWdt s.flags = true ∨ flagSmr s.flags = true) :
      NamedAnswer s i (.refused .staleStop)

variable {s : State} {i : Instr}

/-! ## Operands on a full device -/

section
variable (hfull : s.dev.full)
include hfull

theorem Loc.pointerOk_of_full (l : Loc) : l.pointerOk s := by
  cases l with
  | r | R => trivial
  | Ir n => exact hfull _
  | IR b => exact hfull _
  | X base n => exact hfull _

theorem Loc.accessible_of_full (l : Loc) : l.accessible s := ⟨l.pointerOk_of_full hfull, (hfull _).1⟩

theorem Src.readable_of_full (src : Src) : src.readable s := by
  cases src with
  | loc l => exact l.accessible_of_full hfull
  | im v => trivial

theorem State.pairOk_of_full {a : Byte} (heven : a.getLsbD 0 = false) : s.pairOk a := ⟨heven, hfull _, hfull _⟩

/-- The guard of a pair: an odd address is all that stops it. -/
theorem guarded_pairStop_of_full (a : Byte) (stops : List (Option Refusal)) (k : Result) :
    guarded (s.pairStop a :: stops) k = .refused .oddPair ∨ guarded (s.pairStop a :: stops) k = guarded stops k := by
  cases hodd : a.getLsbD 0 with
  | true =>
    rw [← (s.oddPair_eq_pairStop_iff a).mpr hodd]
    exact .inl rfl
  | false =>
    rw [(s.pairStop_none a).mpr (State.pairOk_of_full hfull hodd)]
    exact .inr rfl

/-- The guard of stack cells: SP among them is all that stops it (10_state.md R43). -/
theorem guarded_stackStops_of_full (cells : List Byte) (k : Result) :
    (s.dev.spAddr ∈ cells ∧ guarded (cells.map s.stackStop) k = .refused .stackOnSp) ∨
      guarded (cells.map s.stackStop) k = k := by
  induction cells with
  | nil => exact .inr rfl
  | cons a cells ih =>
    by_cases ha : a = s.dev.spAddr
    · rw [List.map_cons, State.stackStop_spAddr ha]
      exact .inl ⟨ha ▸ List.mem_cons_self, rfl⟩
    · rw [List.map_cons, (s.stackStop_none a).mpr ⟨ha, hfull a⟩, guarded_none]
      exact ih.imp_left fun ⟨hmem, hk⟩ => ⟨List.mem_cons_of_mem _ hmem, hk⟩

/-- The guard of LDCI: an odd pair or an overlap is all that stops it (45_block_transfer.md R240). -/
theorem guarded_ldciStops_of_full (r q : Byte) (k : Result) :
    guarded (ldciStops s r q) k = .refused .oddPair ∨ guarded (ldciStops s r q) k = .refused .ldciOverlap ∨
      guarded (ldciStops s r q) k = k := by
  have haccess : s.accessStop (s.reg r) = none := (s.accessStop_none _).mpr (hfull _).1
  rw [ldciStops, (s.useStop_none r).mpr (hfull r), guarded_none]
  refine (guarded_pairStop_of_full hfull q _ k).imp_right fun h => ?_
  rw [h, haccess, guarded_none]
  unfold stopIf
  split
  · exact .inl rfl
  · exact .inr rfl

end

/-! ## The shapes with a guard of their own -/

section
variable (hfull : s.dev.full)
include hfull

theorem combine_of_full (g : Byte → Byte → Byte × FlagUpdate) (dst : Loc) (src : Src) (length : Word) :
    (dst.address s = flagsAddr ∧ combine g dst src length s = .refused .flagsDestination) ∨
      ∃ t, combine g dst src length s = .next t := by
  by_cases hd : dst.address s = flagsAddr
  · exact .inl ⟨hd, combine_flags (src.readable_of_full hfull) (dst.pointerOk_of_full hfull) (hfull _) hd⟩
  · obtain ⟨t, ht, -⟩ := combine_of_usable (src.readable_of_full hfull)
      ⟨dst.pointerOk_of_full hfull, hfull _, hd⟩ g length
    exact .inr ⟨t, ht⟩

theorem modify_of_full (g : Byte → Byte × FlagUpdate) (dst : Loc) (length : Word) :
    (dst.address s = flagsAddr ∧ modify g dst length s = .refused .flagsDestination) ∨
      ∃ t, modify g dst length s = .next t := by
  by_cases hd : dst.address s = flagsAddr
  · exact .inl ⟨hd, modify_flags (dst.pointerOk_of_full hfull) (hfull _) hd⟩
  · obtain ⟨t, ht, -⟩ := modify_of_rewritable ⟨dst.pointerOk_of_full hfull, hfull _, hd⟩ g length
    exact .inr ⟨t, ht⟩

theorem modifyPair_of_full (g : Word → Word × FlagUpdate) (dst : Loc) (length : Word) :
    modifyPair g dst length s = .refused .oddPair ∨
      (dst.address s = flagsAddr ∧ modifyPair g dst length s = .refused .flagsDestination) ∨
      ∃ t, modifyPair g dst length s = .next t := by
  have hpointer : dst.pointerOk s := dst.pointerOk_of_full hfull
  cases hodd : (dst.address s).getLsbD 0 with
  | true => exact .inl (modifyPair_of_odd hpointer hodd)
  | false =>
    by_cases hd : dst.address s = flagsAddr
    · exact .inr (.inl ⟨hd, modifyPair_flags hpointer (State.pairOk_of_full hfull (hd ▸ hodd)) hd⟩)
    · obtain ⟨t, ht, -⟩ := modifyPair_of_usable hpointer (State.pairOk_of_full hfull hodd) hd g length
      exact .inr (.inr ⟨t, ht⟩)

theorem popTo_of_full (dst : Loc) :
    (s.sp = s.dev.spAddr ∧ popTo dst s = .refused .stackOnSp) ∨
      (dst.address s = s.dev.spAddr ∧ popTo dst s = .refused .spOperand) ∨ ∃ t, popTo dst s = .next t := by
  have hdst : dst.accessible s := dst.accessible_of_full hfull
  by_cases hsp : s.sp = s.dev.spAddr
  · exact .inl ⟨hsp, popTo_stackOnSp hsp⟩
  · by_cases hd : dst.address s = s.dev.spAddr
    · exact .inr (.inl ⟨hd, popTo_spOperand ⟨hsp, hfull _⟩ hdst hd⟩)
    · exact .inr (.inr ⟨_, popTo_of_usable ⟨hsp, hfull _⟩ hdst hd⟩)

theorem pushFrom_of_full (src : Loc) :
    (s.sp - 1 = s.dev.spAddr ∧ pushFrom src s = .refused .stackOnSp) ∨
      (src.address s = s.dev.spAddr ∧ pushFrom src s = .refused .spOperand) ∨ ∃ t, pushFrom src s = .next t := by
  have hsrc : src.accessible s := src.accessible_of_full hfull
  by_cases ha : src.address s = s.dev.spAddr
  · exact .inr (.inl ⟨ha, pushFrom_spOperand hsrc ha⟩)
  · by_cases hsp : s.sp - 1 = s.dev.spAddr
    · exact .inl ⟨hsp, pushFrom_stackOnSp hsrc ha hsp⟩
    · exact .inr (.inr ⟨_, pushFrom_of_usable ⟨hsp, hfull _⟩ hsrc ha⟩)

end

/-! ## Each group's answers -/

theorem NamedAnswer.of_next {m : Result} (h : ∃ t, m = .next t) : NamedAnswer s i m := by
  obtain ⟨t, rfl⟩ := h
  exact .next t

/-- A read of program memory that is followed by a next state. -/
theorem namedAnswer_withProgByte (hprog : ∀ a, hasProgram s.dev a = true)
    (hi : ∃ n p, i = .ldc_r_Irr n p ∨ i = .ldci_Ir_Irr n p) (a : Word) (k : Byte → State) :
    NamedAnswer s i (s.withProgByte a fun v => .next (k v)) := by
  cases hbyte : s.progByte a with
  | none =>
    rw [State.withProgByte_unloaded (hprog a) hbyte]
    exact .unprogrammed hi
  | some v =>
    rw [State.withProgByte_some (hprog a) hbyte]
    exact .next _

theorem namedAnswer_storeProgByte (hprog : ∀ a, hasProgram s.dev a = true) (hwrite : s.dev.progWrite ≠ .refuse)
    (a : Word) (v : Byte) (k : State → State) : NamedAnswer s i (s.storeProgByte a v k) := by
  obtain ⟨u, hstore, -⟩ := State.storeProgByte_of_not_refuse (hprog a) hwrite v k
  rw [hstore]
  exact .next _

section
variable (hfull : s.dev.full)
include hfull

/-- The stack accesses that refuse for nothing but their cells. -/
theorem namedAnswer_stack {cells : List Byte} (hcells : cells ⊆ [s.sp - 2, s.sp - 1, s.sp, s.sp + 1, s.sp + 2])
    (hi : (∃ a, i = .call_DA a) ∨ (∃ b, i = .call_IRR b) ∨ i = .ret ∨ i = .iret) (t : State) :
    NamedAnswer s i (guarded (cells.map s.stackStop) (.next t)) := by
  rcases guarded_stackStops_of_full hfull cells (.next t) with ⟨hmem, h⟩ | h
  · rw [h]
    exact .stackOnSp (hi.imp_right fun h => h.imp_right .inr) (hcells hmem)
  · rw [h]
    exact .next t

theorem namedAnswer_combine {f : TwoForm}
    (hi : i ∈ [addInstr f, adcInstr f, subInstr f, sbcInstr f, andInstr f, orInstr f, xorInstr f]) :
    NamedAnswer s i (exec i s) := by
  obtain ⟨g, hg⟩ := exec_combineInstr s hi
  rw [hg]
  rcases combine_of_full hfull g f.dst f.src f.length with ⟨hd, h⟩ | h
  · rw [h]
    exact .flagsDestination (.inl ⟨f, hd, hi⟩)
  · exact .of_next h

theorem namedAnswer_test {f : TwoForm} (hi : i ∈ [cpInstr f, tcmInstr f, tmInstr f]) : NamedAnswer s i (exec i s) := by
  have hrun (g : Byte → Byte → FlagUpdate) : ∃ t, testOperands g f.dst f.src f.length s = .next t :=
    ⟨_, testOperands_of_usable (f.src.readable_of_full hfull) (f.dst.accessible_of_full hfull) g f.length⟩
  simp only [List.mem_cons, List.not_mem_nil, or_false] at hi
  rcases hi with rfl | rfl | rfl
  · exact .of_next (exec_cpInstr f s ▸ hrun _)
  · exact .of_next (exec_tcmInstr f s ▸ hrun _)
  · exact .of_next (exec_tmInstr f s ▸ hrun _)

theorem namedAnswer_modify {f : OneForm} (hi : i ∈ [decInstr f, daInstr f, comInstr f, rlInstr f, rlcInstr f,
    rrInstr f, rrcInstr f, sraInstr f, swapInstr f]) : NamedAnswer s i (exec i s) := by
  obtain ⟨g, hg⟩ := exec_modifyInstr s hi
  rw [hg]
  rcases modify_of_full hfull g f.loc 2 with ⟨hd, h⟩ | h
  · rw [h]
    exact .flagsDestination (.inr (.inl ⟨f, hd, List.mem_append_left [incwInstr f, decwInstr f] hi⟩))
  · exact .of_next h

theorem namedAnswer_inc (f : IncForm) : NamedAnswer s (incInstr f) (exec (incInstr f) s) := by
  rw [exec_incInstr]
  rcases modify_of_full hfull incOp f.loc f.length with ⟨hd, h⟩ | h
  · rw [h]
    exact .flagsDestination (.inr (.inr ⟨f, hd, rfl⟩))
  · exact .of_next h

theorem namedAnswer_modifyPair {f : OneForm} (hi : i ∈ [incwInstr f, decwInstr f]) : NamedAnswer s i (exec i s) := by
  obtain ⟨g, hg⟩ := exec_modifyPairInstr s hi
  rw [hg]
  rcases modifyPair_of_full hfull g f.loc 2 with h | ⟨hd, h⟩ | h
  · rw [h]
    exact .oddPair (.inl ⟨f, by simpa using hi⟩)
  · rw [h]
    exact .flagsDestination (.inr (.inl ⟨f, hd, List.mem_append_right
      [decInstr f, daInstr f, comInstr f, rlInstr f, rlcInstr f, rrInstr f, rrcInstr f, sraInstr f, swapInstr f] hi⟩))
  · exact .of_next h

theorem namedAnswer_pop (f : OneForm) : NamedAnswer s (popInstr f) (exec (popInstr f) s) := by
  rw [exec_popInstr]
  rcases popTo_of_full hfull f.loc with ⟨hsp, h⟩ | ⟨hd, h⟩ | h
  · rw [h]
    exact .stackOnSp (.inr (.inr (.inl ⟨f, .inl rfl⟩))) (by simp [hsp])
  · rw [h]
    exact .spOperand ⟨f, hd, .inl rfl⟩
  · exact .of_next h

theorem namedAnswer_push (f : OneForm) : NamedAnswer s (pushInstr f) (exec (pushInstr f) s) := by
  rw [exec_pushInstr]
  rcases pushFrom_of_full hfull f.loc with ⟨hsp, h⟩ | ⟨ha, h⟩ | h
  · rw [h]
    exact .stackOnSp (.inr (.inr (.inl ⟨f, .inr rfl⟩))) (hsp ▸ by simp)
  · rw [h]
    exact .spOperand ⟨f, ha, .inr rfl⟩
  · exact .of_next h

/-- JP, CALL and LDC through a pair, whose guard has the pair first. -/
theorem namedAnswer_pair {a : Byte} {stops : List (Option Refusal)} {k : Result} (hi : UsesPair i)
    (hk : NamedAnswer s i (guarded stops k)) : NamedAnswer s i (guarded (s.pairStop a :: stops) k) := by
  rcases guarded_pairStop_of_full hfull a stops k with h | h
  · rw [h]
    exact .oddPair hi
  · rwa [h]

theorem namedAnswer_ldc {p a : Byte} {k : Result} (hi : ∃ n p, i = .ldc_r_Irr n p ∨ i = .ldc_Irr_r n p)
    (hk : NamedAnswer s i k) : NamedAnswer s i (guarded [s.pairStop p, s.accessStop a] k) := by
  obtain ⟨n, q, hi⟩ := hi
  refine namedAnswer_pair hfull (.inr (.inr ⟨n, q, by rcases hi with rfl | rfl <;> simp⟩)) ?_
  rwa [(s.accessStop_none a).mpr (hfull a).1]

theorem namedAnswer_ldci {r q : Byte} {k : Result} (hi : ∃ n p, i = .ldci_Ir_Irr n p ∨ i = .ldci_Irr_Ir n p)
    (hk : NamedAnswer s i k) : NamedAnswer s i (guarded (ldciStops s r q) k) := by
  rcases guarded_ldciStops_of_full hfull r q k with h | h | h
  · rw [h]
    obtain ⟨n, p, hi⟩ := hi
    exact .oddPair (.inr (.inr ⟨n, p, by rcases hi with rfl | rfl <;> simp⟩))
  · rw [h]
    exact .ldciOverlap hi
  · rwa [h]

end

/-- Every instruction's answer on a full device is a named one, group by group. -/
theorem namedAnswer_exec (i : Instr) (hfull : s.dev.full) (hprog : ∀ a, hasProgram s.dev a = true)
    (hwrite : s.dev.progWrite ≠ .refuse) (hreserved : s.dev.reservedLen ≠ .refuse) : NamedAnswer s i (exec i s) := by
  cases instr_group i with
  | combine f hi => exact namedAnswer_combine hfull hi
  | test f hi => exact namedAnswer_test hfull hi
  | modify f hi => exact namedAnswer_modify hfull hi
  | inc f => exact namedAnswer_inc hfull f
  | modifyPair f hi => exact namedAnswer_modifyPair hfull hi
  | load f =>
    rw [exec_loadInstr, load_of_usable (f.src.readable_of_full hfull) (f.dst.accessible_of_full hfull)]
    exact .next _
  | pop f => exact namedAnswer_pop hfull f
  | push f => exact namedAnswer_push hfull f
  | reserved hi =>
    rw [exec_reservedInstrs hi, reservedNop_of_length _ hreserved]
    exact .next _
  | direct h => exact .of_next (h s)
  | ldc_r_Irr n p => exact namedAnswer_ldc hfull ⟨n, p, .inl rfl⟩ (namedAnswer_withProgByte hprog ⟨n, p, .inl rfl⟩ _ _)
  | ldc_Irr_r hi lo => exact namedAnswer_ldc hfull ⟨hi, lo, .inr rfl⟩ (namedAnswer_storeProgByte hprog hwrite _ _ _)
  | ldci_Ir_Irr n p =>
    exact namedAnswer_ldci hfull ⟨n, p, .inl rfl⟩ (namedAnswer_withProgByte hprog ⟨n, p, .inr rfl⟩ _ _)
  | ldci_Irr_Ir hi lo => exact namedAnswer_ldci hfull ⟨hi, lo, .inr rfl⟩ (namedAnswer_storeProgByte hprog hwrite _ _ _)
  | call_DA target =>
    exact namedAnswer_stack hfull (cells := [s.sp - 2, s.sp - 1]) (by simp) (.inl ⟨target, rfl⟩) _
  | call_IRR b =>
    exact namedAnswer_pair hfull (.inr (.inl ⟨b, .inr rfl⟩))
      (namedAnswer_stack hfull (cells := [s.sp - 2, s.sp - 1]) (by simp) (.inr (.inl ⟨b, rfl⟩)) _)
  | jp_IRR b => exact namedAnswer_pair hfull (.inr (.inl ⟨b, .inl rfl⟩)) (.next _)
  | djnz_r_RA n offset =>
    have hstops : NoStop [s.useStop (s.wr n)] := by simpa using hfull (s.wr n)
    exact .of_next ⟨_, guarded_of_noStop hstops _⟩
  | ret => exact namedAnswer_stack hfull (cells := [s.sp, s.sp + 1]) (by simp) (.inr (.inr (.inl rfl))) _
  | iret =>
    exact namedAnswer_stack hfull (cells := [s.sp, s.sp + 1, s.sp + 2]) (by simp) (.inr (.inr (.inr rfl))) _
  | stop =>
    by_cases hstale : flagWdt s.flags = true ∨ flagSmr s.flags = true
    · rw [exec_stop_refused hstale]
      exact .staleStop rfl hstale
    · simp only [not_or, Bool.not_eq_true] at hstale
      obtain ⟨hwdt, hsmr⟩ := hstale
      exact .of_next ⟨_, exec_stop_next.mpr ⟨⟨hsmr, hwdt⟩, rfl⟩⟩

/-- Settles O57: the named answers are the statement's alternatives. -/
theorem stopsOnlyWhereTheSpecRefuses : Obligations.StopsOnlyWhereTheSpecRefuses := by
  intro i s hfull hprog hwrite hreserved
  have hanswer := namedAnswer_exec i hfull hprog hwrite hreserved
  generalize exec i s = m at hanswer ⊢
  cases hanswer with
  | next t => exact .inl ⟨t, rfl⟩
  | unprogrammed h => exact .inr (.inl ⟨rfl, h⟩)
  | oddPair h => exact .inr (.inr (.inl ⟨rfl, h⟩))
  | flagsDestination h => exact .inr (.inr (.inr (.inl ⟨rfl, h⟩)))
  | spOperand h => exact .inr (.inr (.inr (.inr (.inl ⟨rfl, h⟩))))
  | stackOnSp h hsp => exact .inr (.inr (.inr (.inr (.inr (.inl ⟨rfl, h, hsp⟩)))))
  | ldciOverlap h => exact .inr (.inr (.inr (.inr (.inr (.inr (.inl ⟨rfl, h⟩))))))
  | staleStop h hstale => exact .inr (.inr (.inr (.inr (.inr (.inr (.inr ⟨rfl, h, hstale⟩))))))

end Sys2Proof.Machine
end
